-- ==== Sys2Proof/Word.lean ====
section
/-! DEFINITION. The words of the block: bytes, nibbles and bus addresses (00_scope.md R9). -/

namespace Sys2Proof

/-- A byte, bits 7..0 (00_scope.md R9). -/
abbrev Byte := BitVec 8

/-- A 4-bit half of a byte (00_scope.md glossary). -/
abbrev Nibble := BitVec 4

/-- A two-wire bus address, 0..127 (00_scope.md R6). -/
abbrev BusAddr := BitVec 7

end Sys2Proof
end

