-- ==== Sys2Proof/Syntax.lean ====
section
/-! DEFINITION. The requests of the command surface: the block's instructions, one constructor per row of
spec/opcode_table.json, in the table's order (30_encoding.md R73). -/

namespace Sys2Proof

/-- A request. Every operand is one byte, zero-extended and unscaled; a boolean argument is folded into the
opcode and so into the constructor (30_encoding.md R72, R74). -/
inductive Instr where
  /-- `initialize()` (40_command_surface.md R110). -/
  | init
  /-- `clear()` (R111). -/
  | clear
  /-- `home()` (R112). -/
  | home
  /-- `moveCursor(row, col)` (R113). -/
  | move (row col : Byte)
  /-- `displayOff()` (R117). -/
  | dispoff
  /-- `displayOn()` (R116). -/
  | dispon
  /-- `cursorOff()` (R119). -/
  | cursoroff
  /-- `cursorOn()` (R118). -/
  | cursoron
  /-- `cursorBlinkOff()` (R121). -/
  | blinkoff
  /-- `cursorBlinkOn()` (R120). -/
  | blinkon
  /-- `shiftCursorLeft()` (R124). -/
  | shcurl
  /-- `shiftCursorRight()` (R125). -/
  | shcurr
  /-- `shiftDisplayLeft()` (R122). -/
  | shdispl
  /-- `shiftDisplayRight()` (R123). -/
  | shdispr
  /-- `setTextDirection(false)` (R126). -/
  | textrtl
  /-- `setTextDirection(true)` (R126). -/
  | textltr
  /-- `setAutoShift(false)` (R127). -/
  | autoshiftoff
  /-- `setAutoShift(true)` (R127). -/
  | autoshifton
  /-- `setBacklight(false)` (R130). -/
  | backlightoff
  /-- `setBacklight(true)` (R130). -/
  | backlighton
  /-- `setBrightness(v)` (R129). -/
  | bright (v : Byte)
  /-- `defineGlyph(idx, [m0, ..., m7])` (R128). -/
  | glyph (idx m0 m1 m2 m3 m4 m5 m6 m7 : Byte)
  /-- `write(v)` (R131). -/
  | write (v : Byte)
deriving DecidableEq, Repr

end Sys2Proof
end

