-- ==== Sys2Proof/Decode.lean ====
section
/-! DEFINITION. The request encoding (30_encoding.md Part A): the decoder, total on any byte string, and the
encoder, both written from the opcode map of R73 and the formats of R71. -/

namespace Sys2Proof

/-- What a byte string begins with (30_encoding.md R77). -/
inductive Decoded where
  /-- A complete request, and the bytes after it. -/
  | request (i : Instr) (rest : List Byte)
  /-- An opcode that R73 does not list: one byte is consumed (R75). -/
  | illegal (op : Byte) (rest : List Byte)
  /-- A known opcode with fewer bytes than its format requires: not a request (R76). -/
  | truncated (op : Byte)
  /-- No byte (R76, R77). -/
  | empty
deriving DecidableEq, Repr

/-- The request formats (30_encoding.md R71). -/
inductive Format where
  /-- `op`. -/
  | n
  /-- `op`, `v`. -/
  | b
  /-- `op`, `row`, `col`. -/
  | rc
  /-- `op`, `idx`, `m0`, ..., `m7`. -/
  | g
deriving DecidableEq, Repr

/-- The length of a request of a format, in bytes (30_encoding.md R71). -/
def formatLength : Format → Nat
  | .n => 1
  | .b => 2
  | .rc => 3
  | .g => 10

/-- The format the opcode alone fixes, or none for an illegal opcode (30_encoding.md R71, R73, R75). -/
def opcodeFormat (op : Byte) : Option Format :=
  match op.toNat with
  | 0x01 | 0x02 | 0x03 => some .n
  | 0x04 => some .rc
  | 0x10 | 0x11 | 0x12 | 0x13 | 0x14 | 0x15 => some .n
  | 0x20 | 0x21 | 0x22 | 0x23 => some .n
  | 0x30 | 0x31 | 0x32 | 0x33 => some .n
  | 0x40 | 0x41 => some .n
  | 0x50 => some .b
  | 0x60 => some .g
  | 0x70 => some .b
  | _ => none

/-- The decoder (30_encoding.md R71 to R77). It reads no state. -/
def decode : List Byte → Decoded
  | [] => .empty
  | op :: args =>
    match op.toNat with
    | 0x01 => .request .init args
    | 0x02 => .request .clear args
    | 0x03 => .request .home args
    | 0x04 =>
      match args with
      | row :: col :: rest => .request (.move row col) rest
      | _ => .truncated op
    | 0x10 => .request .dispoff args
    | 0x11 => .request .dispon args
    | 0x12 => .request .cursoroff args
    | 0x13 => .request .cursoron args
    | 0x14 => .request .blinkoff args
    | 0x15 => .request .blinkon args
    | 0x20 => .request .shcurl args
    | 0x21 => .request .shcurr args
    | 0x22 => .request .shdispl args
    | 0x23 => .request .shdispr args
    | 0x30 => .request .textrtl args
    | 0x31 => .request .textltr args
    | 0x32 => .request .autoshiftoff args
    | 0x33 => .request .autoshifton args
    | 0x40 => .request .backlightoff args
    | 0x41 => .request .backlighton args
    | 0x50 =>
      match args with
      | v :: rest => .request (.bright v) rest
      | _ => .truncated op
    | 0x60 =>
      match args with
      | idx :: m0 :: m1 :: m2 :: m3 :: m4 :: m5 :: m6 :: m7 :: rest =>
        .request (.glyph idx m0 m1 m2 m3 m4 m5 m6 m7) rest
      | _ => .truncated op
    | 0x70 =>
      match args with
      | v :: rest => .request (.write v) rest
      | _ => .truncated op
    | _ => .illegal op args

/-- The encoder: the byte string of a request, opcode first (30_encoding.md R71, R73). -/
def encode : Instr → List Byte
  | .init => [0x01]
  | .clear => [0x02]
  | .home => [0x03]
  | .move row col => [0x04, row, col]
  | .dispoff => [0x10]
  | .dispon => [0x11]
  | .cursoroff => [0x12]
  | .cursoron => [0x13]
  | .blinkoff => [0x14]
  | .blinkon => [0x15]
  | .shcurl => [0x20]
  | .shcurr => [0x21]
  | .shdispl => [0x22]
  | .shdispr => [0x23]
  | .textrtl => [0x30]
  | .textltr => [0x31]
  | .autoshiftoff => [0x32]
  | .autoshifton => [0x33]
  | .backlightoff => [0x40]
  | .backlighton => [0x41]
  | .bright v => [0x50, v]
  | .glyph idx m0 m1 m2 m3 m4 m5 m6 m7 => [0x60, idx, m0, m1, m2, m3, m4, m5, m6, m7]
  | .write v => [0x70, v]

/-- The longest request, format G, in bytes (30_encoding.md R70, R71). -/
def maxRequestLength : Nat := 10

/-- The first `maxRequestLength` bytes of an instruction whose bits are `w`, byte 0 being bits 7..0; every bit at
or above `nbits` is 0. -/
def wordBytes (nbits w : Nat) : List Byte :=
  (List.range maxRequestLength).map fun k => BitVec.ofNat 8 ((w % 2 ^ nbits) >>> (8 * k))

/-- The instruction the decoder reads from the table word `w` of `nbits` bits. -/
def decodeTableWord (nbits w : Nat) : Option Instr :=
  match decode (wordBytes nbits w) with
  | .request i _ => some i
  | .illegal _ _ | .truncated _ | .empty => none

/-- The bytes of the one request the table word `w` begins with: those of `wordBytes` that its opcode consumes. -/
def requestBytes (nbits w : Nat) : List Byte :=
  match decode (wordBytes nbits w) with
  | .request i _ => encode i
  | .illegal op _ => [op]
  | .truncated _ | .empty => wordBytes nbits w

end Sys2Proof
end

