-- ==== Sys2Proof/Config.lean ====
section
/-! DEFINITION. What is fixed when a handle is constructed: its family, its row count, and the code and timing
parameters (00_scope.md R6, R7, R8; 93_implementation_defined.md §2). Types only: the spec's default values are in
Machine/Defaults.lean and the checks in Machine/Checks.lean. The spec leaves no result of a request undefined, so
there is no free value here. -/

namespace Sys2Proof

/-- `FAMILY` (00_scope.md R6). -/
inductive Family where
  /-- An HD44780-compatible controller behind an I/O expander. -/
  | lcd
  /-- A US2066 controller. -/
  | oled
deriving DecidableEq, Repr

/-- `ROWS`, 1..4: a handle with another row count does not exist (10_state.md R23). -/
inductive Rows where
  | one
  | two
  | three
  | four
deriving DecidableEq, Repr

/-- The row count as a number. -/
def Rows.count : Rows → Nat
  | .one => 1
  | .two => 2
  | .three => 3
  | .four => 4

/-- `CMD`, the controller command codes (30_encoding.md R80). -/
structure Cmd where
  clear : Byte
  homeHw : Byte
  entry : Byte
  entryId : Byte
  entrySh : Byte
  dctl : Byte
  dctlD : Byte
  dctlC : Byte
  dctlB : Byte
  shift : Byte
  shiftSc : Byte
  shiftRl : Byte
  fset : Byte
  fsetDl : Byte
  fsetN : Byte
  fsetF : Byte
  setCgram : Byte
  setDdram : Byte
deriving DecidableEq, Repr

/-- `PIN`, the bit position of each expander line (30_encoding.md R85). -/
structure Pin where
  rs : Nat
  rwLine : Nat
  en : Nat
  bl : Nat
  d4 : Nat
  d5 : Nat
  d6 : Nat
  d7 : Nat
deriving DecidableEq, Repr

/-- `OLED_MODE`, the two mode-select bytes (30_encoding.md R88). -/
structure OledMode where
  cmdMode : Byte
  dataMode : Byte
deriving DecidableEq, Repr

/-- `ROW_OFFSET`, the DDRAM base of rows 0..3: one table for both families (20_memory.md R57, 90_conflicts.md C2). -/
structure RowOffset where
  row0 : BitVec 7
  row1 : BitVec 7
  row2 : BitVec 7
  row3 : BitVec 7
deriving DecidableEq, Repr

/-- The tag of a command entry: what it does to the controller's instruction-set mode (42_oled_backend.md R194). -/
inductive Tag where
  /-- `RE1`: enters the extended instruction set. -/
  | re1
  /-- `RE0`: leaves it. -/
  | re0
  /-- `SD1`: enables the OLED command set. -/
  | sd1
  /-- `SD0`: disables it. -/
  | sd0
  /-- `-`: no mode change. -/
  | keep
deriving DecidableEq, Repr

/-- An entry of a fixed OLED sequence (42_oled_backend.md R194). -/
inductive SeqEntry where
  /-- `Cmd(b, tag)`. -/
  | cmd (b : Byte) (tag : Tag)
  /-- `Dat(b)`. -/
  | dat (b : Byte)
deriving DecidableEq, Repr

/-- An entry of `OLED_BRIGHT_SEQ`: one that does not depend on the value, or the place of the value itself.
DESIGN CHOICE (log 3): the function of `v` is held as plain data. -/
inductive BrightEntry where
  /-- An entry that is the same for every `v`. -/
  | fixed (e : SeqEntry)
  /-- `Cmd(v, -)`. -/
  | value
deriving DecidableEq, Repr

/-- `OLED_INIT_SEQ` as a function of `ROWS`, one list per row count (42_oled_backend.md R201).
DESIGN CHOICE (log 3): the function is held as plain data. -/
structure OledInitSeq where
  rows1 : List SeqEntry
  rows2 : List SeqEntry
  rows3 : List SeqEntry
  rows4 : List SeqEntry
deriving DecidableEq, Repr

/-- The minimum durations of the waits, in µs (00_scope.md R8). -/
structure Timing where
  tPowerup : Nat
  tBlSettle : Nat
  tSync : Nat
  tEnHold : Nat
  tClear : Nat
  tOledCmd : Nat
deriving DecidableEq, Repr

/-- The code and timing parameters the model takes as an argument (00_scope.md R7, R8). -/
structure Params where
  cmd : Cmd
  pin : Pin
  oledMode : OledMode
  rowOffset : RowOffset
  oledInitSeq : OledInitSeq
  oledBrightSeq : List BrightEntry
  oledTailSends : Bool
  timing : Timing
deriving DecidableEq, Repr

end Sys2Proof
end

