-- ==== Sys2Proof/Machine/Shadows.lean ====
section
/-! DEFINITION. The three register shadows as records of named flags, and the values INIT gives them
(10_state.md R27, R28, R29; 92_eei_decisions.md D9). -/

namespace Sys2Proof.Machine

/-- The entry-mode shadow (10_state.md R27). -/
structure EntryMode where
  /-- `ID`: text runs left to right. -/
  id : Bool
  /-- `SH`: the display shifts on each write. -/
  sh : Bool
deriving DecidableEq, Repr

/-- The display-control shadow (10_state.md R28). -/
structure DisplayControl where
  /-- `D`: display on. -/
  d : Bool
  /-- `C`: cursor shown. -/
  c : Bool
  /-- `B`: cursor blinks. -/
  b : Bool
deriving DecidableEq, Repr

/-- The function-set shadow (10_state.md R29). -/
structure FunctionSet where
  /-- `DL`: 8-bit interface. -/
  dl : Bool
  /-- `N`: two-line display. -/
  n : Bool
  /-- `F`: 5×10 font. -/
  f : Bool
deriving DecidableEq, Repr

/-- `{ID=1, SH=0}`: "left-to-right, no auto-shift" (10_state.md R27). -/
def initEntryMode : EntryMode where
  id := true
  sh := false

/-- `{D=1, C=0, B=0}`: "on, cursor off, blink off" (10_state.md R28). -/
def initDisplayControl : DisplayControl where
  d := true
  c := false
  b := false

/-- `{DL=0, N=bool(rows > 1), F=0}` (10_state.md R29). -/
def initFunctionSet (rows : Rows) : FunctionSet where
  dl := false
  n := decide (rows.count > 1)
  f := false

end Sys2Proof.Machine
end

