-- ==== Sys2Proof/Machine/Flags.lean ====
section
/-! DEFINITION. The "bitmask byte" forms of the three shadow registers (30_encoding.md R81). -/

namespace Sys2Proof.Machine

/-- `(f ? m : 0)` of 30_encoding.md R81. -/
def flagBits (f : Bool) (m : Byte) : Byte := if f then m else 0

/-- `entryModeFlags(em)` (30_encoding.md R81). -/
def entryModeFlags (C : Cmd) (em : EntryMode) : Byte :=
  flagBits em.id C.entryId ||| flagBits em.sh C.entrySh

/-- `displayControlFlags(dc)` (30_encoding.md R81). -/
def displayControlFlags (C : Cmd) (dc : DisplayControl) : Byte :=
  flagBits dc.d C.dctlD ||| flagBits dc.c C.dctlC ||| flagBits dc.b C.dctlB

/-- `functionSetFlags(fs)` (30_encoding.md R81). -/
def functionSetFlags (C : Cmd) (fs : FunctionSet) : Byte :=
  flagBits fs.dl C.fsetDl ||| flagBits fs.n C.fsetN ||| flagBits fs.f C.fsetF

end Sys2Proof.Machine
end

