-- ==== Sys2Proof/Machine/Operands.lean ====
section
/-! DEFINITION. The operand forms: the command bytes, the two init nibbles, the nibble split, the expander byte,
the row clamp and the DDRAM and CGRAM addresses (30_encoding.md R82, R84, R86; 41_lcd_backend.md R164;
40_command_surface.md R113, R128; 20_memory.md R57). -/

namespace Sys2Proof.Machine

/-- `hi(c) = c[7:4]` (41_lcd_backend.md R164). -/
def hiNibble (c : Byte) : Nibble := c.extractLsb' 4 4

/-- `lo(c) = c[3:0]` (41_lcd_backend.md R164). -/
def loNibble (c : Byte) : Nibble := c.extractLsb' 0 4

/-- `trunc_8` of a natural (00_scope.md R9). -/
def truncByte (a : Nat) : Byte := BitVec.ofNat 8 a

/-- `cmdClear()` (30_encoding.md R82). -/
def cmdClear (C : Cmd) : Byte := C.clear

/-- `cmdEntry(em)` (30_encoding.md R82). -/
def cmdEntry (C : Cmd) (em : EntryMode) : Byte := C.entry ||| entryModeFlags C em

/-- `cmdDisplay(dc)` (30_encoding.md R82). -/
def cmdDisplay (C : Cmd) (dc : DisplayControl) : Byte := C.dctl ||| displayControlFlags C dc

/-- `cmdFunction(fs)` (30_encoding.md R82). -/
def cmdFunction (C : Cmd) (fs : FunctionSet) : Byte := C.fset ||| functionSetFlags C fs

/-- `cmdShift(disp, right)` (30_encoding.md R82). -/
def cmdShift (C : Cmd) (disp right : Bool) : Byte :=
  C.shift ||| flagBits disp C.shiftSc ||| flagBits right C.shiftRl

/-- `cmdSetDDRAM(a) = trunc_8(CMD.SET_DDRAM | a)`, `a` a natural (30_encoding.md R82, 92_eei_decisions.md D17). -/
def cmdSetDdram (C : Cmd) (a : Nat) : Byte := truncByte (C.setDdram.toNat ||| a)

/-- `cmdSetCGRAM(a) = trunc_8(CMD.SET_CGRAM | a)`, `a` a natural (30_encoding.md R82). -/
def cmdSetCgram (C : Cmd) (a : Nat) : Byte := truncByte (C.setCgram.toNat ||| a)

/-- `NIB_SYNC = (CMD.FSET | CMD.FSET_DL)[7:4]` (30_encoding.md R84, 90_conflicts.md C1). -/
def nibSync (C : Cmd) : Nibble := hiNibble (C.fset ||| C.fsetDl)

/-- `NIB_4BIT = CMD.FSET[7:4]` (30_encoding.md R84). -/
def nib4bit (C : Cmd) : Nibble := hiNibble C.fset

/-- `b << pos`: one expander line at its bit position (30_encoding.md R86). -/
def lineBit (b : Bool) (pos : Nat) : Byte := if b then (1#8) <<< pos else 0

/-- `lcdByte(nib, rs, en, bl)`: every LCD bus byte; RW is always 0 (30_encoding.md R86). -/
def lcdByte (P : Pin) (nib : Nibble) (rs en bl : Bool) : Byte :=
  lineBit bl P.bl ||| lineBit en P.en ||| lineBit rs P.rs ||| lineBit false P.rwLine |||
  lineBit (nib.getLsbD 0) P.d4 ||| lineBit (nib.getLsbD 1) P.d5 |||
  lineBit (nib.getLsbD 2) P.d6 ||| lineBit (nib.getLsbD 3) P.d7

/-- `ROW_OFFSET[r]`, `r` in 0..3 (20_memory.md R57). The clamp of `clampRow` keeps `r` in that range. -/
def rowOffsetAt (t : RowOffset) (r : Nat) : BitVec 7 :=
  match r with
  | 0 => t.row0
  | 1 => t.row1
  | 2 => t.row2
  | _ => t.row3

/-- The "silent clamp" of a row to `S.rows - 1` (40_command_surface.md R113). -/
def clampRow (rows : Rows) (row : Nat) : Nat :=
  if row > rows.count - 1 then rows.count - 1 else row

/-- `a = col + ROW_OFFSET[clamp(row)]`, a natural (40_command_surface.md R113). -/
def ddramAddr (t : RowOffset) (rows : Rows) (row col : Nat) : Nat :=
  col + (rowOffsetAt t (clampRow rows row)).toNat

/-- `index*8`, the CGRAM base of a glyph (40_command_surface.md R128). -/
def cgramAddr (idx : Nat) : Nat := idx * 8

end Sys2Proof.Machine
end

