-- ==== Sys2Proof/Machine/Checks.lean ====
section
/-! DEFINITION. The checks the parameters must pass; a model "must refuse" parameters that fail one
(30_encoding.md R83, R87, R88; 42_oled_backend.md R207), and the replay of a sequence's tags (R195). -/

namespace Sys2Proof.Machine

/-- The block's belief about the two mode bits, `none` being unknown (10_state.md R30). -/
abbrev Toggle := Option Bool × Option Bool

/-- The toggle update of one tag, on the pair (RE, SD) (42_oled_backend.md R195). -/
def applyTag (t : Toggle) : Tag → Toggle
  | .re1 => (some true, t.2)
  | .re0 => (some false, t.2)
  | .sd1 => (t.1, some true)
  | .sd0 => (t.1, some false)
  | .keep => t

/-- The toggle update of one entry; a data entry has no tag (42_oled_backend.md R194, R195). -/
def applyEntry (t : Toggle) : SeqEntry → Toggle
  | .cmd _ tag => applyTag t tag
  | .dat _ => t

/-- The toggle after a whole sequence (42_oled_backend.md R196). -/
def replayTags (t : Toggle) (q : List SeqEntry) : Toggle := q.foldl applyEntry t

/-- Whether an entry carries `SD1` or `SD0`. -/
def togglesSd : SeqEntry → Bool
  | .cmd _ .sd1 | .cmd _ .sd0 => true
  | .cmd _ .re1 | .cmd _ .re0 | .cmd _ .keep | .dat _ => false

/-- "no `SD1` or `SD0` entry occurs while RE=0" (42_oled_backend.md R207 check 2). DEDUCED (log 12): an unknown RE
is not RE=0. -/
def sdOnlyOutsideRe0 : Toggle → List SeqEntry → Bool
  | _, [] => true
  | t, e :: q => !(togglesSd e && t.1 == some false) && sdOnlyOutsideRe0 (applyEntry t e) q

/-- 42_oled_backend.md R207 check 2: from RE=SD=unknown the replay ends with RE=SD=0, and SD is toggled only as
allowed. -/
def toggleCheck (q : List SeqEntry) : Bool :=
  replayTags (none, none) q == (some false, some false) && sdOnlyOutsideRe0 (none, none) q

/-- Two byte patterns with no bit in common. -/
def disjointBits (a b : Byte) : Bool := a &&& b == 0

/-- 30_encoding.md R83 check 1: "Within each command, the prefix and its flag bits are pairwise disjoint". -/
def cmdDisjoint (C : Cmd) : Bool :=
  disjointBits C.entry C.entryId && disjointBits C.entry C.entrySh && disjointBits C.entryId C.entrySh &&
  disjointBits C.dctl C.dctlD && disjointBits C.dctl C.dctlC && disjointBits C.dctl C.dctlB &&
  disjointBits C.dctlD C.dctlC && disjointBits C.dctlD C.dctlB && disjointBits C.dctlC C.dctlB &&
  disjointBits C.shift C.shiftSc && disjointBits C.shift C.shiftRl && disjointBits C.shiftSc C.shiftRl &&
  disjointBits C.fset C.fsetDl && disjointBits C.fset C.fsetN && disjointBits C.fset C.fsetF &&
  disjointBits C.fsetDl C.fsetN && disjointBits C.fsetDl C.fsetF && disjointBits C.fsetN C.fsetF

/-- 30_encoding.md R83 check 2: `CMD.FSET | CMD.FSET_DL` = 0x30. -/
def cmdSyncLiteral (C : Cmd) : Bool := C.fset ||| C.fsetDl == 0x30

/-- 30_encoding.md R83 check 3: the low nibbles a single strobe cannot carry are zero. -/
def cmdLowNibblesZero (C : Cmd) : Bool :=
  loNibble (C.fset ||| C.fsetDl) == 0 && loNibble C.fset == 0

/-- The three checks on `CMD` (30_encoding.md R83, 90_conflicts.md C9). -/
def cmdCheck (C : Cmd) : Bool := cmdDisjoint C && cmdSyncLiteral C && cmdLowNibblesZero C

/-- The eight positions of `PIN`, in the order of 30_encoding.md R87. -/
def pinPositions (P : Pin) : List Nat := [P.rs, P.rwLine, P.en, P.bl, P.d4, P.d5, P.d6, P.d7]

/-- "The eight positions … must be distinct values in 0..7" (30_encoding.md R87). -/
def pinCheck (P : Pin) : Bool :=
  decide (pinPositions P).Nodup && (pinPositions P).all fun n => decide (n < 8)

/-- `CMD_MODE` ≠ `DATA_MODE` (30_encoding.md R88). -/
def oledModeCheck (M : OledMode) : Bool := M.cmdMode != M.dataMode

/-- `OLED_INIT_SEQ(rows)` (42_oled_backend.md R201). -/
def initSeqOf (q : OledInitSeq) : Rows → List SeqEntry
  | .one => q.rows1
  | .two => q.rows2
  | .three => q.rows3
  | .four => q.rows4

/-- 42_oled_backend.md R207 check 1: equal for rows 1 and 2, and equal for rows 3 and 4. -/
def initSeqRowsCheck (q : OledInitSeq) : Bool := q.rows1 == q.rows2 && q.rows3 == q.rows4

/-- 42_oled_backend.md R207 check 3: the last entry sets the DDRAM address to `ROW_OFFSET[0]`, and an entry before
it is `Cmd(CMD.CLEAR, -)`. DEDUCED (log 11): the last entry's tag is `-`. -/
def initSeqEndCheck (C : Cmd) (t : RowOffset) (q : List SeqEntry) : Bool :=
  q.getLast? == some (.cmd (cmdSetDdram C (rowOffsetAt t 0).toNat) .keep) &&
  q.dropLast.contains (.cmd C.clear .keep)

/-- Checks 2 and 3 of 42_oled_backend.md R207 for one row count. -/
def initSeqCheck (C : Cmd) (t : RowOffset) (q : List SeqEntry) : Bool :=
  toggleCheck q && initSeqEndCheck C t q

/-- Checks 1 to 3 of 42_oled_backend.md R207. -/
def oledInitSeqCheck (C : Cmd) (t : RowOffset) (q : OledInitSeq) : Bool :=
  initSeqRowsCheck q && initSeqCheck C t q.rows1 && initSeqCheck C t q.rows2 &&
  initSeqCheck C t q.rows3 && initSeqCheck C t q.rows4

/-- One entry of `OLED_BRIGHT_SEQ(v)` (42_oled_backend.md R206). -/
def brightEntryAt (v : Byte) : BrightEntry → SeqEntry
  | .fixed e => e
  | .value => .cmd v .keep

/-- `OLED_BRIGHT_SEQ(v)` (42_oled_backend.md R206). -/
def brightSeqOf (q : List BrightEntry) (v : Byte) : List SeqEntry := q.map (brightEntryAt v)

/-- Whether a brightness entry is a command. -/
def brightEntryIsCmd : BrightEntry → Bool
  | .fixed (.cmd _ _) | .value => true
  | .fixed (.dat _) => false

/-- 42_oled_backend.md R207 check 4 (as 90_conflicts.md C10 words it): six command entries, exactly one of them the
value, and check 2. DEDUCED (log 13): six entries in all. The tags do not depend on `v`, so check 2 is asked at 0. -/
def oledBrightSeqCheck (q : List BrightEntry) : Bool :=
  q.length == 6 && q.all brightEntryIsCmd && q.count .value == 1 && toggleCheck (brightSeqOf q 0)

end Sys2Proof.Machine
end

