-- ==== Sys2Proof/Machine/Defaults.lean ====
section
/-! DEFINITION. The default parameters the spec supplies (30_encoding.md R80, R85, R88; 20_memory.md R57;
42_oled_backend.md R201, R202, R206; 00_scope.md R8). The spec marks the code values as general knowledge
(93_implementation_defined.md G1 to G10); they are what `State.reset` takes, and no statement about every state
rests on them (log 2). -/

namespace Sys2Proof.Machine

/-- The default `CMD` (30_encoding.md R80). -/
def defaultCmd : Cmd where
  clear := 0x01
  homeHw := 0x02
  entry := 0x04
  entryId := 0x02
  entrySh := 0x01
  dctl := 0x08
  dctlD := 0x04
  dctlC := 0x02
  dctlB := 0x01
  shift := 0x10
  shiftSc := 0x08
  shiftRl := 0x04
  fset := 0x20
  fsetDl := 0x10
  fsetN := 0x08
  fsetF := 0x04
  setCgram := 0x40
  setDdram := 0x80

/-- The default `PIN` (30_encoding.md R85). -/
def defaultPin : Pin where
  rs := 0
  rwLine := 1
  en := 2
  bl := 3
  d4 := 4
  d5 := 5
  d6 := 6
  d7 := 7

/-- The default `OLED_MODE` (30_encoding.md R88). -/
def defaultOledMode : OledMode where
  cmdMode := 0x80
  dataMode := 0x40

/-- The default `ROW_OFFSET` (20_memory.md R57). -/
def defaultRowOffset : RowOffset where
  row0 := 0x00
  row1 := 0x40
  row2 := 0x14
  row3 := 0x54

/-- `lineSel(rows)`: the 3/4-line variant when `rows > 2` (42_oled_backend.md R203). -/
def lineSel (rows : Rows) : Byte := if rows.count > 2 then 0x09 else 0x08

/-- The default `OLED_INIT_SEQ(rows)`, phases (a) to (f), 25 entries (42_oled_backend.md R201). -/
def defaultInitSeqAt (rows : Rows) : List SeqEntry :=
  [.cmd 0x2A .re1] ++
  [.cmd 0x71 .keep, .dat 0x5C] ++
  [.cmd 0x28 .re0, .cmd 0x08 .keep, .cmd 0x2A .re1, .cmd 0x79 .sd1] ++
  [.cmd 0xD5 .keep, .cmd 0x70 .keep, .cmd 0xDA .keep, .cmd 0x10 .keep, .cmd 0x81 .keep, .cmd 0xFF .keep,
   .cmd 0xDB .keep, .cmd 0x40 .keep, .cmd 0xDC .keep, .cmd 0x00 .keep] ++
  [.cmd 0x78 .sd0, .cmd 0x28 .re0, .cmd 0x2A .re1, .cmd 0x06 .keep, .cmd (lineSel rows) .keep, .cmd 0x28 .re0] ++
  [.cmd 0x01 .keep, .cmd (cmdSetDdram defaultCmd (rowOffsetAt defaultRowOffset 0).toNat) .keep]

/-- The default `OLED_INIT_SEQ` (42_oled_backend.md R201). -/
def defaultOledInitSeq : OledInitSeq where
  rows1 := defaultInitSeqAt .one
  rows2 := defaultInitSeqAt .two
  rows3 := defaultInitSeqAt .three
  rows4 := defaultInitSeqAt .four

/-- The default `OLED_BRIGHT_SEQ` (42_oled_backend.md R206). -/
def defaultOledBrightSeq : List BrightEntry :=
  [.fixed (.cmd 0x2A .re1), .fixed (.cmd 0x79 .sd1), .fixed (.cmd 0x81 .keep), .value,
   .fixed (.cmd 0x78 .sd0), .fixed (.cmd 0x28 .re0)]

/-- The timing values (00_scope.md R8, 92_eei_decisions.md D3). -/
def defaultTiming : Timing where
  tPowerup := 100000
  tBlSettle := 1000000
  tSync := 4300
  tEnHold := 1
  tClear := 2000
  tOledCmd := 10000

/-- The default parameters (00_scope.md R7). -/
def defaultParams : Params where
  cmd := defaultCmd
  pin := defaultPin
  oledMode := defaultOledMode
  rowOffset := defaultRowOffset
  oledInitSeq := defaultOledInitSeq
  oledBrightSeq := defaultOledBrightSeq
  oledTailSends := true
  timing := defaultTiming

/-- `FAMILY` of `State.reset`. DESIGN CHOICE (log 1): the handle of the spec's first scenario. -/
def resetFamily : Family := .lcd

/-- `ADDR` of `State.reset`. DESIGN CHOICE (log 1). -/
def resetAddr : BusAddr := 0x27

/-- `ROWS` of `State.reset`. DESIGN CHOICE (log 1). -/
def resetRows : Rows := .two

end Sys2Proof.Machine
end

