-- ==== Sys2Proof/WellFormed.lean ====
section
/-! DEFINITION. Well-formedness: of a request, and of the parameters a handle is built with. -/

namespace Sys2Proof

/-- Every request is well formed: "No operand value is illegal at decode" (30_encoding.md R75), and an operand's
8-bit width (R74) is carried by its type. -/
def Instr.wf : Instr → Bool
  | .init | .clear | .home | .dispoff | .dispon | .cursoroff | .cursoron | .blinkoff | .blinkon => true
  | .shcurl | .shcurr | .shdispl | .shdispr | .textrtl | .textltr | .autoshiftoff | .autoshifton => true
  | .backlightoff | .backlighton => true
  | .move _ _ | .bright _ | .write _ => true
  | .glyph _ _ _ _ _ _ _ _ _ => true

/-- The parameters pass every check of the spec (30_encoding.md R83, R87, R88; 42_oled_backend.md R207). DESIGN CHOICE
(log 20): a `T_CLEAR` below the 1530 µs of 40_command_surface.md R111 is not refused. -/
def Params.wf (P : Params) : Bool :=
  Machine.cmdCheck P.cmd && Machine.pinCheck P.pin && Machine.oledModeCheck P.oledMode &&
  Machine.oledInitSeqCheck P.cmd P.rowOffset P.oledInitSeq && Machine.oledBrightSeqCheck P.oledBrightSeq

end Sys2Proof
end

