-- ==== Sys2Proof/Machine/State.lean ====
section
/-! DEFINITION. The handle: the block's whole state (10_state.md), its construction, and why a step can stop. -/

namespace Sys2Proof.Machine

/-- A fault reason of the block (60_exceptions.md R228). Raising one is a step of the block, see `raiseFault`. -/
inductive FaultReason where
  /-- The first byte is no opcode (R222). -/
  | illegalRequest
  /-- A request other than INIT before INIT (R221). -/
  | notInitialized
  /-- INIT after INIT (R223). -/
  | alreadyInitialized
  /-- BRIGHT on LCD, BACKLIGHT* on OLED (R224). -/
  | wrongFamily
  /-- GLYPH with idx ≥ 8 (R225). -/
  | badGlyphIndex
deriving DecidableEq, Repr

/-- An output event (00_scope.md R10, 20_memory.md R52). -/
inductive Event where
  /-- `Txn(a, bs)`: one addressed bus transaction. -/
  | txn (addr : BusAddr) (bytes : List Byte)
  /-- `Wait(t)`: a wait of at least `t` µs. -/
  | wait (us : Nat)
deriving DecidableEq, Repr

/-- What the host gets back for a request (00_scope.md R11). -/
inductive Result where
  /-- `Ok(ret)`. -/
  | ok (ret : Option Nat)
  /-- `Faulted(r)`. -/
  | faulted (r : FaultReason)
deriving DecidableEq, Repr

/-- Why the machine takes no step. None of these writes any state. -/
inductive Fault where
  /-- Raised by every step and every meaning when `S.fault` ≠ none: the halted block "takes no step on any later
  request" (60_exceptions.md R220). Safe: nothing is claimed of a step that does not exist. -/
  | halted
  /-- Raised by a step whose input is a known opcode with too few bytes: stuck until more arrive
  (30_encoding.md R76). Safe. -/
  | truncatedRequest
  /-- Raised by a step with no input: the block waits for a request (30_encoding.md R76, R77; 70_reset R250).
  Safe. -/
  | awaitingRequest
  /-- Raised by a meaning that would read an undefined shadow, in states no run reaches: it "must fault, not pick a
  value" (10_state.md R32). Safe. -/
  | undefinedShadow
deriving DecidableEq, Repr

/-- Why the model gives no meaning. -/
inductive Refusal where
  /-- Raised only by an arm of `exec` whose instruction has no meaning yet. Safe. -/
  | notModelled (mnemonic : String)
deriving DecidableEq, Repr

/-- The handle (10_state.md R36), its parameters (00_scope.md R7, R8) and the two fields of the model's own: the
request bytes delivered and not yet taken, and the results given so far. -/
structure State where
  /-- `S.family` (10_state.md R22). -/
  family : Family
  /-- `S.addr` (10_state.md R22). -/
  addr : BusAddr
  /-- `S.rows` (10_state.md R22). -/
  rows : Rows
  /-- The code and timing parameters (00_scope.md R7, R8): never written. DESIGN CHOICE (log 2): held in State. -/
  params : Params
  /-- `S.initialized` (10_state.md R24). -/
  initialized : Bool
  /-- `S.fault` (10_state.md R25). -/
  fault : Option FaultReason
  /-- `S.backlight` (10_state.md R26). -/
  backlight : Bool
  /-- `S.entryMode`, `none` being undefined (10_state.md R27). -/
  entryMode : Option EntryMode
  /-- `S.displayControl`, `none` being undefined (10_state.md R28). -/
  displayControl : Option DisplayControl
  /-- `S.functionSet`, `none` being undefined (10_state.md R29). -/
  functionSet : Option FunctionSet
  /-- `S.oledRE`, `none` being unknown (10_state.md R30). -/
  oledRE : Option Bool
  /-- `S.oledSD`, `none` being unknown (10_state.md R30). -/
  oledSD : Option Bool
  /-- `S.trace`, oldest event first (10_state.md R33). -/
  trace : List Event
  /-- The request bytes the host has delivered and the block has not taken. DESIGN CHOICE (log 4). -/
  input : List Byte
  /-- The results of the requests so far, oldest first (60_exceptions.md R241). DESIGN CHOICE (log 5). -/
  results : List Result
deriving DecidableEq, Repr

/-- The state at construction, for a legal configuration (10_state.md R36). -/
def State.construct (P : Params) (family : Family) (addr : BusAddr) (rows : Rows) : State where
  family := family
  addr := addr
  rows := rows
  params := P
  initialized := false
  fault := none
  backlight := true
  entryMode := none
  displayControl := none
  functionSet := none
  oledRE := none
  oledSD := none
  trace := []
  input := []
  results := []

/-- The block's reset is the construction of a handle (70_reset_and_hazards.md R250): here with the spec's default
parameters and the configuration of its first scenario (logs 1, 2). -/
def State.reset : State := State.construct defaultParams resetFamily resetAddr resetRows

end Sys2Proof.Machine
end

