-- ==== Sys2Proof/Machine/Ops.lean ====
section
/-! DEFINITION. The named operations on the handle: emitting, writing a field, raising a fault, the guard, and the
course of a request (00_scope.md R10, R11; 60_exceptions.md R220, R221). -/

namespace Sys2Proof.Machine

/-- The outcome of a step of this machine. -/
abbrev StepOutcome := Host.Outcome State Fault Refusal

/-- Append events to the trace, in order (00_scope.md R10, R11; 10_state.md R33). -/
def emit (es : List Event) (s : State) : State := { s with trace := s.trace ++ es }

/-- `emit Wait(t)` (00_scope.md R10). -/
def emitWait (t : Nat) (s : State) : State := emit [.wait t] s

/-- `S.initialized <- 1` (40_command_surface.md R110). -/
def setInitialized (s : State) : State := { s with initialized := true }

/-- `S.backlight <- b` (40_command_surface.md R130). -/
def setBacklight (b : Bool) (s : State) : State := { s with backlight := b }

/-- `S.entryMode <- em` (40_command_surface.md R115). -/
def setEntryMode (em : EntryMode) (s : State) : State := { s with entryMode := some em }

/-- `S.displayControl <- dc` (40_command_surface.md R115). -/
def setDisplayControl (dc : DisplayControl) (s : State) : State := { s with displayControl := some dc }

/-- `S.functionSet <- fs` (41_lcd_backend.md R170). -/
def setFunctionSet (fs : FunctionSet) (s : State) : State := { s with functionSet := some fs }

/-- Write both toggle bits (42_oled_backend.md R195). -/
def setToggle (t : Toggle) (s : State) : State := { s with oledRE := t.1, oledSD := t.2 }

/-- Both toggle bits. -/
def toggleOf (s : State) : Toggle := (s.oledRE, s.oledSD)

/-- Leave `rest` as the request bytes not yet taken (30_encoding.md R71). -/
def setInput (rest : List Byte) (s : State) : State := { s with input := rest }

/-- `return v`: the request ends with `Ok(ret)` (00_scope.md R10, 92_eei_decisions.md D23). -/
def complete (ret : Option Nat) (s : State) : State := { s with results := s.results ++ [.ok ret] }

/-- `raise Fault(r)`: `S.fault <- some r`, the result is `Faulted(r)`, no event is emitted and no other state
changes (60_exceptions.md R220). There is no saved state, handler, vector or mode (R230), and no return (R231). -/
def raiseFault (r : FaultReason) (s : State) : State :=
  { s with fault := some r, results := s.results ++ [.faulted r] }

/-- The number of a fault reason (60_exceptions.md R228). -/
def faultCode : FaultReason → Nat
  | .illegalRequest => 1
  | .notInitialized => 2
  | .alreadyInitialized => 3
  | .wrongFamily => 4
  | .badGlyphIndex => 5

/-- The initialisation check of the guard (60_exceptions.md R221, R223). -/
def guardInitialized (req : Instr) (s : State) : Option FaultReason :=
  match req with
  | .init => if s.initialized then some .alreadyInitialized else none
  | .clear | .home | .move _ _ | .dispoff | .dispon | .cursoroff | .cursoron | .blinkoff | .blinkon
  | .shcurl | .shcurr | .shdispl | .shdispr | .textrtl | .textltr | .autoshiftoff | .autoshifton
  | .backlightoff | .backlighton | .bright _ | .glyph _ _ _ _ _ _ _ _ _ | .write _ =>
    if s.initialized then none else some .notInitialized

/-- The family check of the guard (60_exceptions.md R221, R224). -/
def guardFamily (req : Instr) (s : State) : Option FaultReason :=
  match req with
  | .bright _ => if s.family = .oled then none else some .wrongFamily
  | .backlightoff | .backlighton => if s.family = .lcd then none else some .wrongFamily
  | .init | .clear | .home | .move _ _ | .dispoff | .dispon | .cursoroff | .cursoron | .blinkoff | .blinkon
  | .shcurl | .shcurr | .shdispl | .shdispr | .textrtl | .textltr | .autoshiftoff | .autoshifton
  | .glyph _ _ _ _ _ _ _ _ _ | .write _ => none

/-- The operand check of the guard (60_exceptions.md R221, R225). -/
def guardOperand (req : Instr) : Option FaultReason :=
  match req with
  | .glyph idx _ _ _ _ _ _ _ _ => if idx.toNat ≥ 8 then some .badGlyphIndex else none
  | .init | .clear | .home | .move _ _ | .dispoff | .dispon | .cursoroff | .cursoron | .blinkoff | .blinkon
  | .shcurl | .shcurr | .shdispl | .shdispr | .textrtl | .textltr | .autoshiftoff | .autoshifton
  | .backlightoff | .backlighton | .bright _ | .write _ => none

/-- `guard(req)`, the checks after decoding: the first that applies gives the fault (60_exceptions.md R221, R229). -/
def requestGuard (req : Instr) (s : State) : Option FaultReason :=
  match guardInitialized req s with
  | some r => some r
  | none =>
    match guardFamily req s with
    | some r => some r
    | none => guardOperand req

/-- The course of a request: no step if halted; the guard's fault if one applies; else the request's own body
(60_exceptions.md R220, R221, R230). -/
def runRequest (req : Instr) (body : State → StepOutcome) (s : State) : StepOutcome :=
  match s.fault with
  | some _ => .fault .halted
  | none =>
    match requestGuard req s with
    | some r => .next (raiseFault r s)
    | none => body s

/-- A request whose body always completes, with result `Ok(ret)`. -/
def runTotal (req : Instr) (ret : Option Nat) (body : State → State) (s : State) : StepOutcome :=
  runRequest req (fun s => .next (complete ret (body s))) s

end Sys2Proof.Machine
end

