-- ==== Sys2Proof/Machine/Lcd.lean ====
section
/-! DEFINITION. The LCD protocol state machine: bus writes, the enable strobe, the nibble multiplexer and the raw
byte (41_lcd_backend.md R160 to R169). Each primitive is the list of events it emits; a list may be emitted at
once, since no request sees an intermediate state (R169). -/

namespace Sys2Proof.Machine

/-- `lcdWrite(b)`: one 1-byte transaction (41_lcd_backend.md R162). -/
def lcdWriteEvents (s : State) (b : Byte) : List Event := [.txn s.addr [b]]

/-- The expander byte with the backlight line of `S.backlight` (41_lcd_backend.md R161). -/
def lcdLineByte (s : State) (nib : Nibble) (rs en : Bool) : Byte := lcdByte s.params.pin nib rs en s.backlight

/-- `lcdStrobe(nib, rs)`: EN low, EN high, hold, EN low, hold (41_lcd_backend.md R163). -/
def lcdStrobeEvents (s : State) (nib : Nibble) (rs : Bool) : List Event :=
  lcdWriteEvents s (lcdLineByte s nib rs false) ++
  lcdWriteEvents s (lcdLineByte s nib rs true) ++
  [.wait s.params.timing.tEnHold] ++
  lcdWriteEvents s (lcdLineByte s nib rs false) ++
  [.wait s.params.timing.tEnHold]

/-- `lcdSend(c, rs)`: both nibbles, high nibble first (41_lcd_backend.md R164, R165). -/
def lcdSendEvents (s : State) (c : Byte) (rs : Bool) : List Event :=
  lcdStrobeEvents s (hiNibble c) rs ++ lcdStrobeEvents s (loNibble c) rs

/-- `lcdRaw(bl)`: the expander lines set directly, all but BL at 0 (41_lcd_backend.md R166). -/
def lcdRawEvents (s : State) (bl : Bool) : List Event :=
  lcdWriteEvents s (lcdByte s.params.pin 0 false false bl)

/-- `lcdStrobe` as an operation. -/
def lcdStrobe (nib : Nibble) (rs : Bool) (s : State) : State := emit (lcdStrobeEvents s nib rs) s

/-- `lcdSend` as an operation. -/
def lcdSend (c : Byte) (rs : Bool) (s : State) : State := emit (lcdSendEvents s c rs) s

/-- `lcdRaw` as an operation. -/
def lcdRaw (bl : Bool) (s : State) : State := emit (lcdRawEvents s bl) s

end Sys2Proof.Machine
end

