-- ==== Sys2Proof/Machine/Oled.lean ====
section
/-! DEFINITION. The OLED protocol state machine: the command/data codec and the fixed sequences with their
extended-instruction toggle (42_oled_backend.md R190 to R197). -/

namespace Sys2Proof.Machine

/-- `oledCommand(c)`: a 2-byte transaction, then the command wait (42_oled_backend.md R191). -/
def oledCommandEvents (s : State) (c : Byte) : List Event :=
  [.txn s.addr [s.params.oledMode.cmdMode, c], .wait s.params.timing.tOledCmd]

/-- `oledData(d)`: a 2-byte transaction and no wait (42_oled_backend.md R192, 92_eei_decisions.md D28). -/
def oledDataEvents (s : State) (d : Byte) : List Event := [.txn s.addr [s.params.oledMode.dataMode, d]]

/-- `oledCommand` as an operation. -/
def oledCommand (c : Byte) (s : State) : State := emit (oledCommandEvents s c) s

/-- `oledData` as an operation. -/
def oledData (d : Byte) (s : State) : State := emit (oledDataEvents s d) s

/-- Send one entry (42_oled_backend.md R194). -/
def oledSendEntry (e : SeqEntry) (s : State) : State :=
  match e with
  | .cmd b _ => oledCommand b s
  | .dat b => oledData b s

/-- After sending an entry, "the block updates its mode state from the entry's tag" (42_oled_backend.md R195). -/
def updateToggle (e : SeqEntry) (s : State) : State := setToggle (applyEntry (toggleOf s) e) s

/-- `oledSendSeq(q)` (42_oled_backend.md R196). -/
def oledSendSeq : List SeqEntry → State → State
  | [], s => s
  | e :: q, s => oledSendSeq q (updateToggle e (oledSendEntry e s))

end Sys2Proof.Machine
end

