-- ==== Sys2Proof/Machine/Surface.lean ====
section
/-! DEFINITION. What the requests share: the family-selected send capability, the shadow read-modify-write, and the
bodies that INIT also runs (40_command_surface.md R111 to R115). -/

namespace Sys2Proof.Machine

/-- `sendCommand(c)`, by the family selected at construction (40_command_surface.md R114). -/
def sendCommand (c : Byte) (s : State) : State :=
  match s.family with
  | .lcd => lcdSend c false s
  | .oled => oledCommand c s

/-- `sendData(d)` (40_command_surface.md R114). -/
def sendData (d : Byte) (s : State) : State :=
  match s.family with
  | .lcd => lcdSend d true s
  | .oled => oledData d s

/-- `for each d of ds: sendData(d)`, in order (40_command_surface.md R128, 20_memory.md R53). -/
def sendDataAll : List Byte → State → State
  | [], s => s
  | d :: ds, s => sendDataAll ds (sendData d s)

/-- `S.functionSet <- fs`, then its whole byte is sent (41_lcd_backend.md R170, R175). -/
def recordFunctionSet (fs : FunctionSet) (s : State) : State :=
  sendCommand (cmdFunction s.params.cmd fs) (setFunctionSet fs s)

/-- `S.displayControl <- dc`, then its whole byte is sent (40_command_surface.md R115). -/
def recordDisplayControl (dc : DisplayControl) (s : State) : State :=
  sendCommand (cmdDisplay s.params.cmd dc) (setDisplayControl dc s)

/-- `S.entryMode <- em`, then its whole byte is sent (40_command_surface.md R115). -/
def recordEntryMode (em : EntryMode) (s : State) : State :=
  sendCommand (cmdEntry s.params.cmd em) (setEntryMode em s)

/-- `rmw(displayControl, f, x)`: read the shadow, write it back changed, send the whole byte. An undefined shadow
faults (40_command_surface.md R115, 10_state.md R31, R32). -/
def rmwDisplayControl (change : DisplayControl → DisplayControl) (s : State) : StepOutcome :=
  match s.displayControl with
  | some dc => .next (complete none (recordDisplayControl (change dc) s))
  | none => .fault .undefinedShadow

/-- `rmw(entryMode, f, x)` (40_command_surface.md R115, 10_state.md R31, R32). -/
def rmwEntryMode (change : EntryMode → EntryMode) (s : State) : StepOutcome :=
  match s.entryMode with
  | some em => .next (complete none (recordEntryMode (change em) s))
  | none => .fault .undefinedShadow

/-- `clearBody()` (40_command_surface.md R111). -/
def clearBody (s : State) : State :=
  emitWait s.params.timing.tClear (sendCommand (cmdClear s.params.cmd) s)

/-- `moveBody(row, col)` (40_command_surface.md R113). -/
def moveBody (row col : Nat) (s : State) : State :=
  sendCommand (cmdSetDdram s.params.cmd (ddramAddr s.params.rowOffset s.rows row col)) s

/-- `homeBody() = moveBody(0, 0)`: the hardware return-home is never sent (40_command_surface.md R112). -/
def homeBody (s : State) : State := moveBody 0 0 s

end Sys2Proof.Machine
end

