-- ==== Sys2Proof/Machine/Cursor.lean ====
section
/-! DEFINITION. CLEAR, HOME and MOVE (40_command_surface.md R111 to R113). -/

namespace Sys2Proof.Machine

/-- CLEAR (40_command_surface.md R111). -/
def execClear (s : State) : StepOutcome := runTotal .clear none clearBody s

/-- HOME (40_command_surface.md R112). -/
def execHome (s : State) : StepOutcome := runTotal .home none homeBody s

/-- MOVE row, col (40_command_surface.md R113). -/
def execMove (row col : Byte) (s : State) : StepOutcome :=
  runTotal (.move row col) none (moveBody row.toNat col.toNat) s

end Sys2Proof.Machine
end

