-- ==== Sys2Proof/Machine/Data.lean ====
section
/-! DEFINITION. GLYPH and WRITE: the requests that send data bytes (40_command_surface.md R128, R131). -/

namespace Sys2Proof.Machine

/-- `sendCommand(cmdSetCGRAM(idx * 8))`, then the 8 bitmap bytes in order, unmodified (40_command_surface.md R128). -/
def glyphBody (idx : Byte) (bitmap : List Byte) (s : State) : State :=
  sendDataAll bitmap (sendCommand (cmdSetCgram s.params.cmd (cgramAddr idx.toNat)) s)

/-- GLYPH idx, [m0, ..., m7] (40_command_surface.md R128). -/
def execGlyph (idx m0 m1 m2 m3 m4 m5 m6 m7 : Byte) (s : State) : StepOutcome :=
  runTotal (.glyph idx m0 m1 m2 m3 m4 m5 m6 m7) none (glyphBody idx [m0, m1, m2, m3, m4, m5, m6, m7]) s

/-- WRITE v: "always reports one unit consumed" (40_command_surface.md R131). -/
def execWrite (v : Byte) (s : State) : StepOutcome := runTotal (.write v) (some 1) (sendData v) s

end Sys2Proof.Machine
end

