-- ==== Sys2Proof/Machine/Display.lean ====
section
/-! DEFINITION. The display, cursor and blink toggles: read-modify-writes of the display-control shadow
(40_command_surface.md R116 to R121). -/

namespace Sys2Proof.Machine

/-- Set flag D. -/
def withD (x : Bool) (dc : DisplayControl) : DisplayControl := { dc with d := x }

/-- Set flag C. -/
def withC (x : Bool) (dc : DisplayControl) : DisplayControl := { dc with c := x }

/-- Set flag B. -/
def withB (x : Bool) (dc : DisplayControl) : DisplayControl := { dc with b := x }

/-- DISPOFF (40_command_surface.md R117). -/
def execDispoff (s : State) : StepOutcome := runRequest .dispoff (rmwDisplayControl (withD false)) s

/-- DISPON (40_command_surface.md R116). -/
def execDispon (s : State) : StepOutcome := runRequest .dispon (rmwDisplayControl (withD true)) s

/-- CURSOROFF (40_command_surface.md R119). -/
def execCursoroff (s : State) : StepOutcome := runRequest .cursoroff (rmwDisplayControl (withC false)) s

/-- CURSORON (40_command_surface.md R118). -/
def execCursoron (s : State) : StepOutcome := runRequest .cursoron (rmwDisplayControl (withC true)) s

/-- BLINKOFF (40_command_surface.md R121). -/
def execBlinkoff (s : State) : StepOutcome := runRequest .blinkoff (rmwDisplayControl (withB false)) s

/-- BLINKON (40_command_surface.md R120). -/
def execBlinkon (s : State) : StepOutcome := runRequest .blinkon (rmwDisplayControl (withB true)) s

end Sys2Proof.Machine
end

