-- ==== Sys2Proof/Machine/Entry.lean ====
section
/-! DEFINITION. Text direction and auto-shift: read-modify-writes of the entry-mode shadow
(40_command_surface.md R126, R127; 92_eei_decisions.md D29). -/

namespace Sys2Proof.Machine

/-- Set flag ID. -/
def withId (x : Bool) (em : EntryMode) : EntryMode := { em with id := x }

/-- Set flag SH. -/
def withSh (x : Bool) (em : EntryMode) : EntryMode := { em with sh := x }

/-- TEXTRTL (40_command_surface.md R126). -/
def execTextrtl (s : State) : StepOutcome := runRequest .textrtl (rmwEntryMode (withId false)) s

/-- TEXTLTR (40_command_surface.md R126). -/
def execTextltr (s : State) : StepOutcome := runRequest .textltr (rmwEntryMode (withId true)) s

/-- AUTOSHIFTOFF (40_command_surface.md R127). -/
def execAutoshiftoff (s : State) : StepOutcome := runRequest .autoshiftoff (rmwEntryMode (withSh false)) s

/-- AUTOSHIFTON (40_command_surface.md R127). -/
def execAutoshifton (s : State) : StepOutcome := runRequest .autoshifton (rmwEntryMode (withSh true)) s

end Sys2Proof.Machine
end

