-- ==== Sys2Proof/Machine/Init.lean ====
section
/-! DEFINITION. INIT: the two initialisation sequencers (40_command_surface.md R110; 41_lcd_backend.md R170 to R175;
42_oled_backend.md R200 to R203). -/

namespace Sys2Proof.Machine

/-- Step 3's one round: the synchronisation nibble, then its wait (41_lcd_backend.md R173). -/
def lcdSyncRound (s : State) : State :=
  emitWait s.params.timing.tSync (lcdStrobe (nibSync s.params.cmd) false s)

/-- Steps 1 to 4: power-up wait, raw backlight byte and settle, three synchronisation rounds, the 4-bit switch
(41_lcd_backend.md R171 to R174). -/
def lcdPowerUp (s : State) : State :=
  let s := emitWait s.params.timing.tPowerup s
  let s := lcdRaw s.backlight s
  let s := emitWait s.params.timing.tBlSettle s
  let s := lcdSyncRound (lcdSyncRound (lcdSyncRound s))
  lcdStrobe (nib4bit s.params.cmd) false s

/-- The three shadows recorded and sent, in the order of step 5 (41_lcd_backend.md R175). -/
def sendShadows (s : State) : State :=
  recordEntryMode initEntryMode (recordDisplayControl initDisplayControl (recordFunctionSet (initFunctionSet s.rows) s))

/-- `lcdInit()` (41_lcd_backend.md R170). -/
def lcdInit (s : State) : State := homeBody (clearBody (sendShadows (lcdPowerUp s)))

/-- The three shadows recorded and not sent (42_oled_backend.md R202, `OLED_TAIL_SENDS` false). -/
def storeShadows (s : State) : State :=
  setEntryMode initEntryMode (setDisplayControl initDisplayControl (setFunctionSet (initFunctionSet s.rows) s))

/-- `oledTail()` (42_oled_backend.md R202). -/
def oledTail (s : State) : State :=
  if s.params.oledTailSends then sendShadows s else storeShadows s

/-- `oledInit()` (42_oled_backend.md R200). -/
def oledInit (s : State) : State :=
  homeBody (clearBody (oledTail (oledSendSeq (initSeqOf s.params.oledInitSeq s.rows) s)))

/-- The body of INIT (40_command_surface.md R110). -/
def initBody (s : State) : State :=
  match s.family with
  | .lcd => setInitialized (lcdInit s)
  | .oled => setInitialized (oledInit s)

/-- INIT (40_command_surface.md R110). -/
def execInit (s : State) : StepOutcome := runTotal .init none initBody s

end Sys2Proof.Machine
end

