-- ==== Sys2Proof/Machine/Panel.lean ====
section
/-! DEFINITION. The family-specific requests: backlight (LCD) and brightness (OLED) (40_command_surface.md R129,
R130, R133). -/

namespace Sys2Proof.Machine

/-- `S.backlight <- b; lcdRaw(S.backlight)` (40_command_surface.md R130). -/
def backlightBody (b : Bool) (s : State) : State := lcdRaw b (setBacklight b s)

/-- BACKLIGHTOFF (40_command_surface.md R130). -/
def execBacklightoff (s : State) : StepOutcome := runTotal .backlightoff none (backlightBody false) s

/-- BACKLIGHTON (40_command_surface.md R130). -/
def execBacklighton (s : State) : StepOutcome := runTotal .backlighton none (backlightBody true) s

/-- `oledSendSeq(OLED_BRIGHT_SEQ(v))`; the value is not stored (40_command_surface.md R129). -/
def brightBody (v : Byte) (s : State) : State := oledSendSeq (brightSeqOf s.params.oledBrightSeq v) s

/-- BRIGHT v (40_command_surface.md R129). -/
def execBright (v : Byte) (s : State) : StepOutcome := runTotal (.bright v) none (brightBody v) s

end Sys2Proof.Machine
end

