-- ==== Sys2Proof/Machine/Shift.lean ====
section
/-! DEFINITION. The four shifts: "stateless one-shot commands" (40_command_surface.md R122 to R125). -/

namespace Sys2Proof.Machine

/-- `sendCommand(cmdShift(disp, right))` (40_command_surface.md R122 to R125). -/
def shiftBody (disp right : Bool) (s : State) : State := sendCommand (cmdShift s.params.cmd disp right) s

/-- SHCURL (40_command_surface.md R124). -/
def execShcurl (s : State) : StepOutcome := runTotal .shcurl none (shiftBody false false) s

/-- SHCURR (40_command_surface.md R125). -/
def execShcurr (s : State) : StepOutcome := runTotal .shcurr none (shiftBody false true) s

/-- SHDISPL (40_command_surface.md R122). -/
def execShdispl (s : State) : StepOutcome := runTotal .shdispl none (shiftBody true false) s

/-- SHDISPR (40_command_surface.md R123). -/
def execShdispr (s : State) : StepOutcome := runTotal .shdispr none (shiftBody true true) s

end Sys2Proof.Machine
end

