-- ==== Sys2Proof/Machine/Dispatch.lean ====
section
/-! DEFINITION. One arm per request: the call of its meaning. -/

namespace Sys2Proof.Machine

def exec (i : Instr) (s : State) : Host.Outcome State Fault Refusal :=
  match i with
  | .init => Sys2Proof.Machine.execInit s
  | .clear => Sys2Proof.Machine.execClear s
  | .home => Sys2Proof.Machine.execHome s
  | .move row col => Sys2Proof.Machine.execMove row col s
  | .dispoff => Sys2Proof.Machine.execDispoff s
  | .dispon => Sys2Proof.Machine.execDispon s
  | .cursoroff => Sys2Proof.Machine.execCursoroff s
  | .cursoron => Sys2Proof.Machine.execCursoron s
  | .blinkoff => Sys2Proof.Machine.execBlinkoff s
  | .blinkon => Sys2Proof.Machine.execBlinkon s
  | .shcurl => Sys2Proof.Machine.execShcurl s
  | .shcurr => Sys2Proof.Machine.execShcurr s
  | .shdispl => Sys2Proof.Machine.execShdispl s
  | .shdispr => Sys2Proof.Machine.execShdispr s
  | .textrtl => Sys2Proof.Machine.execTextrtl s
  | .textltr => Sys2Proof.Machine.execTextltr s
  | .autoshiftoff => Sys2Proof.Machine.execAutoshiftoff s
  | .autoshifton => Sys2Proof.Machine.execAutoshifton s
  | .backlightoff => Sys2Proof.Machine.execBacklightoff s
  | .backlighton => Sys2Proof.Machine.execBacklighton s
  | .bright v => Sys2Proof.Machine.execBright v s
  | .glyph idx m0 m1 m2 m3 m4 m5 m6 m7 => Sys2Proof.Machine.execGlyph idx m0 m1 m2 m3 m4 m5 m6 m7 s
  | .write v => Sys2Proof.Machine.execWrite v s

end Sys2Proof.Machine
end

