-- ==== Sys2Proof/Machine/Cycle.lean ====
section
/-! DEFINITION. One step: take the next request from the bytes the host has delivered, and run it
(00_scope.md R11; 30_encoding.md R71 to R77; 60_exceptions.md R221). -/

namespace Sys2Proof.Machine

/-- One step. The checks before the guard come in the order of 60_exceptions.md R221: a halted block takes no step
at all; an illegal opcode consumes its one byte and raises `IllegalRequest` (30_encoding.md R75); a truncated
request leaves the block stuck (R76); else the request is taken and run. -/
def cycle (s : State) : StepOutcome :=
  match s.fault with
  | some _ => .fault .halted
  | none =>
    match decode s.input with
    | .request i rest => exec i (setInput rest s)
    | .illegal _ rest => .next (raiseFault .illegalRequest (setInput rest s))
    | .truncated _ => .fault .truncatedRequest
    | .empty => .fault .awaitingRequest

/-- The state with the table word's one request put in front of the bytes not yet taken (log 18). -/
def placeRequest (s : State) (nbits w : Nat) : State := setInput (requestBytes nbits w ++ s.input) s

end Sys2Proof.Machine
end

