-- ==== Sys2Proof/Machine/Step.lean ====
section
/-! DEFINITION. The machine's step, and the placing of the request it takes next. -/

namespace Sys2Proof.Machine

/-- One step of the block: one request (00_scope.md R11). -/
def step (s : State) : Host.Outcome State Fault Refusal := cycle s

/-- The state whose next step takes and runs exactly the request of the table word `w` (log 18). -/
def State.withFetchWord (s : State) (nbits w : Nat) : State := placeRequest s nbits w

end Sys2Proof.Machine
end

