-- ==== Sys2Proof/Machine/Assembler.lean ====
section
/-! DEFINITION. The assembler text of requests: one request per line, and the four pseudo-instructions
(30_encoding.md R78). The block never sees this text; no step depends on it. Blanks, the spelling of booleans and
what is refused are DESIGN CHOICE (log 17). -/

namespace Sys2Proof.Machine

/-- A pseudo-instruction; "none of them is a request" (30_encoding.md R78). -/
inductive Pseudo where
  /-- `TEXTDIR b`. -/
  | textdir (b : Bool)
  /-- `AUTOSHIFT b`. -/
  | autoshift (b : Bool)
  /-- `BACKLIGHT b`. -/
  | backlight (b : Bool)
  /-- `PRINT "s"`. -/
  | print (s : List Byte)
deriving DecidableEq, Repr

/-- The requests a pseudo-instruction stands for (30_encoding.md R78). -/
def expandPseudo : Pseudo → List Instr
  | .textdir b => if b then [.textltr] else [.textrtl]
  | .autoshift b => if b then [.autoshifton] else [.autoshiftoff]
  | .backlight b => if b then [.backlighton] else [.backlightoff]
  | .print s => s.map .write

/-- Blank characters of a line. -/
def isBlank (c : Char) : Bool := c == ' ' || c == '\t'

/-- A line without blanks at either end. -/
def trimBlanks (cs : List Char) : List Char := ((cs.dropWhile isBlank).reverse.dropWhile isBlank).reverse

/-- The value of a digit in the given base. -/
def digitValue (base : Nat) (c : Char) : Option Nat :=
  let n := c.toNat
  let v :=
    if 48 ≤ n ∧ n ≤ 57 then n - 48
    else if 65 ≤ n ∧ n ≤ 70 then n - 55
    else if 97 ≤ n ∧ n ≤ 102 then n - 87
    else base
  if v < base then some v else none

/-- The number a digit string spells, most significant digit first. -/
def digitsValue (base acc : Nat) : List Char → Option Nat
  | [] => some acc
  | c :: cs =>
    match digitValue base c with
    | some v => digitsValue base (acc * base + v) cs
    | none => none

/-- A natural as a byte operand, if it is one. -/
def asByte (n : Nat) : Option Byte := if n < 256 then some (BitVec.ofNat 8 n) else none

/-- The code of the single quote. -/
def quoteCode : Nat := 39

/-- The code of the double quote. -/
def doubleQuoteCode : Nat := 34

/-- A byte operand: "decimal, `0xNN` hex, or a quoted character standing for its byte" (30_encoding.md R78). -/
def parseByte (cs : List Char) : Option Byte :=
  match trimBlanks cs with
  | [] => none
  | '0' :: 'x' :: d :: ds => (digitsValue 16 0 (d :: ds)).bind asByte
  | [q, c, q'] =>
    if q.toNat = quoteCode ∧ q'.toNat = quoteCode then asByte c.toNat
    else (digitsValue 10 0 [q, c, q']).bind asByte
  | d :: ds => (digitsValue 10 0 (d :: ds)).bind asByte

/-- Split at commas; a single quote carries the character after it and its closing quote along verbatim. -/
def splitCommas (verbatim : Nat) (acc : List Char) : List Char → List (List Char)
  | [] => [acc.reverse]
  | c :: cs =>
    match verbatim with
    | k + 1 => splitCommas k (c :: acc) cs
    | 0 =>
      if c.toNat = quoteCode then splitCommas 2 (c :: acc) cs
      else if c = ',' then acc.reverse :: splitCommas 0 [] cs
      else splitCommas 0 (c :: acc) cs

/-- Every operand of a comma-separated list as a byte. -/
def parseBytes (cs : List Char) : Option (List Byte) := (splitCommas 0 [] cs).mapM parseByte

/-- A boolean operand. DESIGN CHOICE (log 17): `true`, `false`, `1` or `0`. -/
def parseBool (cs : List Char) : Option Bool :=
  let t := trimBlanks cs
  if t = ['t', 'r', 'u', 'e'] ∨ t = ['1'] then some true
  else if t = ['f', 'a', 'l', 's', 'e'] ∨ t = ['0'] then some false
  else none

/-- A bitmap: a bracketed list (30_encoding.md R78). -/
def parseBracketed (cs : List Char) : Option (List Byte) :=
  match trimBlanks cs with
  | '[' :: body =>
    match body.reverse with
    | ']' :: inner => parseBytes inner.reverse
    | _ => none
  | _ => none

/-- A quoted string, its characters as bytes (30_encoding.md R78). -/
def parseString (cs : List Char) : Option (List Byte) :=
  match trimBlanks cs with
  | q :: body =>
    match body.reverse with
    | q' :: inner =>
      if q.toNat = doubleQuoteCode ∧ q'.toNat = doubleQuoteCode ∧ inner.all fun c => c.toNat != doubleQuoteCode then
        inner.reverse.mapM fun c => asByte c.toNat
      else none
    | [] => none
  | [] => none

/-- The split of `GLYPH`'s operand text at its first comma: the index and the bracketed bitmap. A single quote
carries the character after it and its closing quote along verbatim. -/
def splitFirstComma (verbatim : Nat) (acc : List Char) : List Char → Option (List Char × List Char)
  | [] => none
  | c :: cs =>
    match verbatim with
    | k + 1 => splitFirstComma k (c :: acc) cs
    | 0 =>
      if c.toNat = quoteCode then splitFirstComma 2 (c :: acc) cs
      else if c = ',' then some (acc.reverse, cs)
      else splitFirstComma 0 (c :: acc) cs

/-- `GLYPH idx, [m0, ..., m7]` with "a bracketed list of exactly 8 bytes" (30_encoding.md R78). -/
def parseGlyph (ops : List Char) : Option Instr :=
  match splitFirstComma 0 [] ops with
  | some (i, m) =>
    match parseByte i, parseBracketed m with
    | some idx, some [m0, m1, m2, m3, m4, m5, m6, m7] => some (.glyph idx m0 m1 m2 m3 m4 m5 m6 m7)
    | _, _ => none
  | none => none

/-- The requests with no operand, by mnemonic (30_encoding.md R73). -/
def plainMnemonics : List (String × Instr) :=
  [("INIT", .init), ("CLEAR", .clear), ("HOME", .home), ("DISPOFF", .dispoff), ("DISPON", .dispon),
   ("CURSOROFF", .cursoroff), ("CURSORON", .cursoron), ("BLINKOFF", .blinkoff), ("BLINKON", .blinkon)] ++
  [("SHCURL", .shcurl), ("SHCURR", .shcurr), ("SHDISPL", .shdispl), ("SHDISPR", .shdispr),
   ("TEXTRTL", .textrtl), ("TEXTLTR", .textltr), ("AUTOSHIFTOFF", .autoshiftoff), ("AUTOSHIFTON", .autoshifton),
   ("BACKLIGHTOFF", .backlightoff), ("BACKLIGHTON", .backlighton)]

/-- A line with operands, by mnemonic (30_encoding.md R73, R78). -/
def assembleOperands (m : String) (ops : List Char) : Option (List Instr) :=
  if m = "MOVE" then
    match parseBytes ops with
    | some [row, col] => some [.move row col]
    | _ => none
  else if m = "BRIGHT" then (parseByte ops).map fun v => [.bright v]
  else if m = "WRITE" then (parseByte ops).map fun v => [.write v]
  else if m = "GLYPH" then (parseGlyph ops).map fun i => [i]
  else if m = "TEXTDIR" then (parseBool ops).map fun b => expandPseudo (.textdir b)
  else if m = "AUTOSHIFT" then (parseBool ops).map fun b => expandPseudo (.autoshift b)
  else if m = "BACKLIGHT" then (parseBool ops).map fun b => expandPseudo (.backlight b)
  else if m = "PRINT" then (parseString ops).map fun s => expandPseudo (.print s)
  else none

/-- One line: "the mnemonic, then its operands separated by commas" (30_encoding.md R78). None where the line is no
request and no pseudo-instruction. -/
def assembleLine (line : List Char) : Option (List Instr) :=
  let body := trimBlanks line
  let m := String.ofList (body.takeWhile fun c => !isBlank c)
  let ops := trimBlanks (body.dropWhile fun c => !isBlank c)
  match ops, plainMnemonics.lookup m with
  | [], some i => some [i]
  | _, _ => assembleOperands m ops

/-- A program: "one request per line", in order (30_encoding.md R78). -/
def assemble (lines : List (List Char)) : Option (List Instr) :=
  (lines.mapM assembleLine).map List.flatten

end Sys2Proof.Machine
end

