-- ==== Sys2Proof/Machine/HostView.lean ====
section
/-! DEFINITION. The host's side of the block: constructing a handle, delivering request bytes, the calls an event
stands for, and the counts of a trace (10_state.md R23; 20_memory.md R51, R52; 30_encoding.md R70, R76;
60_exceptions.md R240; 70_reset_and_hazards.md R261). -/

namespace Sys2Proof.Machine

/-- The row count as a configuration, none outside 1..4 (10_state.md R23). -/
def rowsOfCount (n : Nat) : Option Rows :=
  match n with
  | 1 => some .one
  | 2 => some .two
  | 3 => some .three
  | 4 => some .four
  | _ => none

/-- Construction with its checks: no handle exists for `ROWS` outside 1..4, `ADDR` above 127, or parameters that
fail a check (10_state.md R23; 30_encoding.md R83, R87, R88; 42_oled_backend.md R207). -/
def constructHandle (P : Params) (family : Family) (addr rows : Nat) : Option State :=
  match rowsOfCount rows with
  | some r => if addr ≤ 127 ∧ P.wf = true then some (State.construct P family (BitVec.ofNat 7 addr) r) else none
  | none => none

/-- The host delivers request bytes, whole requests or part of one (30_encoding.md R70, R76). -/
def deliver (bs : List Byte) (s : State) : State := setInput (s.input ++ bs) s

/-- A call of the transport or of the delay primitive (20_memory.md R51, 60_exceptions.md R232). -/
inductive HostCall where
  /-- `beginTransaction(address)`. -/
  | beginTransaction (addr : BusAddr)
  /-- `session.writeByte(byte)`. -/
  | writeByte (b : Byte)
  /-- `session.end()`. -/
  | endTransaction
  /-- A blocking wait of at least `us` µs. -/
  | delay (us : Nat)
deriving DecidableEq, Repr

/-- The calls an event stands for, "with nothing between the calls" (20_memory.md R52). -/
def hostCalls : Event → List HostCall
  | .txn a bs => [.beginTransaction a] ++ bs.map .writeByte ++ [.endTransaction]
  | .wait t => [.delay t]

/-- The calls of a trace, in emission order (20_memory.md R59). -/
def traceCalls (es : List Event) : List HostCall := es.flatMap hostCalls

/-- Whether an event is a transaction. -/
def isTxn : Event → Bool
  | .txn _ _ => true
  | .wait _ => false

/-- The duration an event asks for, 0 for a transaction. -/
def waitOf : Event → Nat
  | .txn _ _ => 0
  | .wait t => t

/-- T: the number of transactions (70_reset_and_hazards.md R261). -/
def txnCount (es : List Event) : Nat := es.countP isTxn

/-- W: the number of waits (70_reset_and_hazards.md R261). -/
def waitCount (es : List Event) : Nat := es.countP fun e => !isTxn e

/-- The total minimum wait in µs (70_reset_and_hazards.md R261). -/
def waitTotal (es : List Event) : Nat := (es.map waitOf).sum

/-- The bytes put on the bus, in order: on LCD, what the expander shows (41_lcd_backend.md, introduction). -/
def busBytes : List Event → List Byte
  | [] => []
  | .txn _ bs :: es => bs ++ busBytes es
  | .wait _ :: es => busBytes es

/-- The data nibble on lines D4..D7 of an expander byte (30_encoding.md R85, R86). -/
def nibbleOnLines (P : Pin) (b : Byte) : Nibble :=
  BitVec.ofNat 4 ((b.getLsbD P.d4).toNat + 2 * (b.getLsbD P.d5).toNat + 4 * (b.getLsbD P.d6).toNat +
    8 * (b.getLsbD P.d7).toNat)

/-- What the controller latches as the expander shows `prev` and then the listed bytes: at each falling edge of EN,
the RS line and the nibble (41_lcd_backend.md R167). -/
def latched (P : Pin) (prev : Byte) : List Byte → List (Bool × Nibble)
  | [] => []
  | b :: bs =>
    if prev.getLsbD P.en && !b.getLsbD P.en then (b.getLsbD P.rs, nibbleOnLines P b) :: latched P b bs
    else latched P b bs

end Sys2Proof.Machine
end

