-- ==== Sys2Proof/Safety.lean ====
section
/-! DEFINITION. What claims are stated in: when a request runs normally, the events of a logical byte, the
invariants of a handle, and how a run ends. -/

namespace Sys2Proof.Machine

/-- The guard of every request but INIT passes its first checks: no fault, and initialised (60_exceptions.md R221). -/
def Ready (s : State) : Prop := s.fault = none ∧ s.initialized = true

/-- The guard of INIT passes: no fault, and not yet initialised (60_exceptions.md R221, R223). -/
def Fresh (s : State) : Prop := s.fault = none ∧ s.initialized = false

/-- The events of `sendCommand(c)` (40_command_surface.md R114). -/
def commandEvents (s : State) (c : Byte) : List Event :=
  match s.family with
  | .lcd => lcdSendEvents s c false
  | .oled => oledCommandEvents s c

/-- The events of `sendData(d)` (40_command_surface.md R114). -/
def dataEvents (s : State) (d : Byte) : List Event :=
  match s.family with
  | .lcd => lcdSendEvents s d true
  | .oled => oledDataEvents s d

/-- The events of one entry of an OLED sequence (42_oled_backend.md R194). -/
def entryEvents (s : State) : SeqEntry → List Event
  | .cmd b _ => oledCommandEvents s b
  | .dat b => oledDataEvents s b

/-- The handle `s` after a request that emitted `es` and ended with `Ok(ret)`, nothing else changed. -/
def afterOk (s : State) (es : List Event) (ret : Option Nat) : State :=
  { s with trace := s.trace ++ es, results := s.results ++ [.ok ret] }

/-- The handle `s` after a request that raised `r`: `S.fault` and the result, nothing else (60_exceptions.md R220). -/
def afterFault (s : State) (r : FaultReason) : State :=
  { s with fault := some r, results := s.results ++ [.faulted r] }

/-- The events a step appended to `s.trace` to give `t.trace`. -/
def newEvents (s t : State) : List Event := t.trace.drop s.trace.length

/-- The waits a family's rules emit: there is no other (70_reset_and_hazards.md R256). -/
def waitOk (s : State) (t : Nat) : Bool :=
  match s.family with
  | .lcd =>
    [s.params.timing.tPowerup, s.params.timing.tBlSettle, s.params.timing.tSync, s.params.timing.tEnHold,
     s.params.timing.tClear].contains t
  | .oled => [s.params.timing.tOledCmd, s.params.timing.tClear].contains t

/-- The transaction shapes: one expander byte with RW low (41_lcd_backend.md R162, 30_encoding.md R86), or a
mode-select byte and a value (30_encoding.md R89). -/
def payloadOk (s : State) (bs : List Byte) : Bool :=
  match s.family, bs with
  | .lcd, [b] => !b.getLsbD s.params.pin.rwLine
  | .oled, [m, _] => m == s.params.oledMode.cmdMode || m == s.params.oledMode.dataMode
  | _, _ => false

/-- An event the handle may have emitted: its own bus address (20_memory.md R52), a shape and a wait of its family. -/
def eventOk (s : State) : Event → Bool
  | .txn a bs => a == s.addr && payloadOk s bs
  | .wait t => waitOk s t

/-- The toggle outside a request, after INIT (42_oled_backend.md R197; 10_state.md R30). -/
def restingToggle : Family → Toggle
  | .lcd => (none, none)
  | .oled => (some false, some false)

/-- The fields that INIT defines (70_reset_and_hazards.md R251): defined after it, as constructed before it
(10_state.md R36). -/
def lifecycleOk (s : State) : Bool :=
  if s.initialized then
    s.entryMode.isSome && s.displayControl.isSome && s.functionSet == some (initFunctionSet s.rows) &&
    toggleOf s == restingToggle s.family && (s.family == .lcd || s.backlight)
  else
    s.entryMode == none && s.displayControl == none && s.functionSet == none && toggleOf s == (none, none) &&
    s.backlight && s.trace == []

/-- Whether a result is `Ok`. -/
def isOk : Result → Bool
  | .ok _ => true
  | .faulted _ => false

/-- A handle has given `Faulted(r)` exactly when its fault is `r`, and then as its last result
(60_exceptions.md R220, R229). -/
def resultsOk (s : State) : Bool :=
  match s.fault with
  | none => s.results.all isOk
  | some r => s.results.getLast? == some (.faulted r) && s.results.dropLast.all isOk

/-- The invariant of a handle: well-formed parameters, a trace of its family's events only, shadows and toggle as
the lifecycle says, and results that agree with the fault. -/
def handleInv (s : State) : Bool :=
  s.params.wf && s.trace.all (eventOk s) && lifecycleOk s && resultsOk s

/-- A request stream is at its end: halted, or nothing left to take; a pending truncated request has not ended
(60_exceptions.md R241). DESIGN CHOICE (log 21): a halted block's run has ended, whatever bytes are left. -/
def runEnded (s : State) : Bool := s.fault.isSome || s.input.isEmpty

/-- A run "ends well if `S.fault` = none" (60_exceptions.md R241). -/
def endsWell (s : State) : Bool := runEnded s && s.fault.isNone

/-- Requests run one after another, in the order the host issues them (20_memory.md R59). -/
def execAll : List Instr → State → StepOutcome
  | [], s => .next s
  | i :: is, s =>
    match exec i s with
    | .next t => execAll is t
    | .fault r => .fault r
    | .refused r => .refused r

/-- The requests that change one flag of the display-control shadow (40_command_surface.md R116 to R121). -/
def isDisplayRequest : Instr → Bool
  | .dispoff | .dispon | .cursoroff | .cursoron | .blinkoff | .blinkon => true
  | .init | .clear | .home | .move _ _ | .shcurl | .shcurr | .shdispl | .shdispr | .textrtl | .textltr
  | .autoshiftoff | .autoshifton | .backlightoff | .backlighton | .bright _ | .glyph _ _ _ _ _ _ _ _ _
  | .write _ => false

/-- The flag a display request sets or clears; other requests leave the register (40_command_surface.md R132). -/
def accumulateDisplay (dc : DisplayControl) : Instr → DisplayControl
  | .dispoff => { dc with d := false }
  | .dispon => { dc with d := true }
  | .cursoroff => { dc with c := false }
  | .cursoron => { dc with c := true }
  | .blinkoff => { dc with b := false }
  | .blinkon => { dc with b := true }
  | .init | .clear | .home | .move _ _ | .shcurl | .shcurr | .shdispl | .shdispr | .textrtl | .textltr
  | .autoshiftoff | .autoshifton | .backlightoff | .backlighton | .bright _ | .glyph _ _ _ _ _ _ _ _ _
  | .write _ => dc

/-- The requests that change one flag of the entry-mode shadow (40_command_surface.md R126, R127). -/
def isEntryRequest : Instr → Bool
  | .textrtl | .textltr | .autoshiftoff | .autoshifton => true
  | .init | .clear | .home | .move _ _ | .dispoff | .dispon | .cursoroff | .cursoron | .blinkoff | .blinkon
  | .shcurl | .shcurr | .shdispl | .shdispr | .backlightoff | .backlighton | .bright _
  | .glyph _ _ _ _ _ _ _ _ _ | .write _ => false

/-- The flag an entry-mode request sets or clears; other requests leave the register (40_command_surface.md R132). -/
def accumulateEntry (em : EntryMode) : Instr → EntryMode
  | .textrtl => { em with id := false }
  | .textltr => { em with id := true }
  | .autoshiftoff => { em with sh := false }
  | .autoshifton => { em with sh := true }
  | .init | .clear | .home | .move _ _ | .dispoff | .dispon | .cursoroff | .cursoron | .blinkoff | .blinkon
  | .shcurl | .shcurr | .shdispl | .shdispr | .backlightoff | .backlighton | .bright _
  | .glyph _ _ _ _ _ _ _ _ _ | .write _ => em

/-- The table of 70_reset_and_hazards.md R261: T, W and µs of a request that runs, under the default parameters.
A request the family faults on emits nothing. -/
def tableCounts (family : Family) (i : Instr) : Nat × Nat × Nat :=
  match i, family with
  | .init, .lcd => (43, 34, 1114928)
  | .init, .oled => (30, 30, 292000)
  | .clear, .lcd => (6, 5, 2004)
  | .clear, .oled => (1, 2, 12000)
  | .home, .lcd | .move _ _, .lcd | .dispoff, .lcd | .dispon, .lcd | .cursoroff, .lcd | .cursoron, .lcd
  | .blinkoff, .lcd | .blinkon, .lcd | .shcurl, .lcd | .shcurr, .lcd | .shdispl, .lcd | .shdispr, .lcd
  | .textrtl, .lcd | .textltr, .lcd | .autoshiftoff, .lcd | .autoshifton, .lcd => (6, 4, 4)
  | .home, .oled | .move _ _, .oled | .dispoff, .oled | .dispon, .oled | .cursoroff, .oled | .cursoron, .oled
  | .blinkoff, .oled | .blinkon, .oled | .shcurl, .oled | .shcurr, .oled | .shdispl, .oled | .shdispr, .oled
  | .textrtl, .oled | .textltr, .oled | .autoshiftoff, .oled | .autoshifton, .oled => (1, 1, 10000)
  | .backlightoff, .lcd | .backlighton, .lcd => (1, 0, 0)
  | .backlightoff, .oled | .backlighton, .oled => (0, 0, 0)
  | .bright _, .lcd => (0, 0, 0)
  | .bright _, .oled => (6, 6, 60000)
  | .glyph _ _ _ _ _ _ _ _ _, .lcd => (54, 36, 36)
  | .glyph _ _ _ _ _ _ _ _ _, .oled => (9, 1, 10000)
  | .write _, .lcd => (6, 4, 4)
  | .write _, .oled => (1, 0, 0)

/-- An event without its bytes: a wait's duration, or none for a transaction. -/
def eventShape : Event → Option Nat
  | .txn _ _ => none
  | .wait t => some t

/-- `s` with the toggle's ghost state forgotten (10_state.md R30, 92_eei_decisions.md D27). -/
def forgetToggle (s : State) : State := setToggle (none, none) s

/-- An outcome with its next state seen through `f`. -/
def seenThrough (f : State → State) : StepOutcome → StepOutcome
  | .next s => .next (f s)
  | .fault r => .fault r
  | .refused r => .refused r

end Sys2Proof.Machine
end

