-- ==== Sys2Proof/Certificates/Slice0/Obligations.lean ====
section
/-! DEFINITION. The statements about the model, from the spec's numbered rules. `Ready`, `Fresh`, `afterOk` and
`afterFault` are those of Safety.lean: the last two keep a request's result in `State.results` and leave
`State.input`, the model's own places (logs 4, 5). -/

open Sys2Proof Sys2Proof.Machine

/-! ## Steps and decoding -/

/-- When the bytes delivered begin with a complete request, a step takes its bytes and is `exec` of it; nothing else
happens around `exec` (30_encoding.md R71; log 4). -/
def Obligations.StepRunsDecodedRequest : Prop :=
  ∀ (s : State) (i : Instr) (rest : List Byte), s.fault = none → decode s.input = .request i rest →
    step s = exec i { s with input := rest }

/-- 30_encoding.md R75: "Decoding an illegal opcode raises `Fault(IllegalRequest)` … and consumes only that one
byte"; exactly 233 opcode values are illegal, 0x00 and 0xFF among them: all that the map of R73 does not list. That
the request's bytes stand in `State.input` is the model's choice (log 4). -/
def Obligations.IllegalOpcodeFaults : Prop :=
  (∀ (s : State) (op : Byte) (rest : List Byte), s.fault = none → s.input = op :: rest → opcodeFormat op = none →
    step s = .next (afterFault { s with input := rest } .illegalRequest)) ∧
  ((List.range 256).countP fun n => opcodeFormat (BitVec.ofNat 8 n) == none) = 233 ∧
  opcodeFormat 0x00 = none ∧ opcodeFormat 0xFF = none ∧
  (∀ op : Byte, opcodeFormat op ≠ none ↔ op.toNat ∈
    [0x01, 0x02, 0x03, 0x04, 0x10, 0x11, 0x12, 0x13, 0x14, 0x15, 0x20, 0x21, 0x22, 0x23, 0x30, 0x31, 0x32, 0x33,
     0x40, 0x41, 0x50, 0x60, 0x70])

/-- A pending truncated request, or no request, is no step (30_encoding.md R76). That the stuck block is this outcome
of `step` is the model's choice (log 7). -/
def Obligations.TruncatedRequestTakesNoStep : Prop :=
  ∀ (s : State), s.fault = none →
    (∀ (op : Byte) (args : List Byte) (f : Format), s.input = op :: args → opcodeFormat op = some f →
      (op :: args).length < formatLength f → step s = .fault .truncatedRequest) ∧
    (s.input = [] → step s = .fault .awaitingRequest)

/-- The block is stuck on any proper part of a request and runs the request once the host delivers the missing bytes
(30_encoding.md R76, program P6; logs 4, 7). -/
def Obligations.TruncatedRequestRunsWhenCompleted : Prop :=
  ∀ (s : State) (i : Instr) (k : Nat), s.fault = none → 0 < k → k < (encode i).length → s.input = (encode i).take k →
    step s = .fault .truncatedRequest ∧
    step (deliver ((encode i).drop k) s) = exec i { s with input := [] }

/-- 30_encoding.md R77: decoding is total, and every byte string begins with a complete request, begins with an
illegal opcode, or is a truncated request or empty; the opcode alone fixes the length (R71), and a complete request
is decoded from exactly its own bytes. -/
def Obligations.DecodingIsTotalByFormat : Prop :=
  decode [] = .empty ∧
  ∀ (op : Byte) (args : List Byte),
    match opcodeFormat op with
    | none => decode (op :: args) = .illegal op args
    | some f =>
      if (op :: args).length < formatLength f then decode (op :: args) = .truncated op
      else ∃ i : Instr, decode (op :: args) = .request i ((op :: args).drop (formatLength f)) ∧
        encode i = (op :: args).take (formatLength f)

/-- Decoding and encoding agree for every request and every operand, in both directions: a byte string begins with the
request `i` exactly when it begins with `encode i` (30_encoding.md R71, R73, R74). -/
def Obligations.DecodeAgreesWithEncode : Prop :=
  ∀ (bs : List Byte) (i : Instr) (rest : List Byte), decode bs = .request i rest ↔ bs = encode i ++ rest

/-- Words of every family, written out from the opcode map of 30_encoding.md R73, decode to their requests. -/
def Obligations.WordsOfTheOpcodeMapDecode : Prop :=
  decode [0x01] = .request .init [] ∧
  decode [0x02] = .request .clear [] ∧
  decode [0x03] = .request .home [] ∧
  decode [0x04, 0x03, 0x05] = .request (.move 3 5) [] ∧
  decode [0x13] = .request .cursoron [] ∧
  decode [0x21] = .request .shcurr [] ∧
  decode [0x31] = .request .textltr [] ∧
  decode [0x40] = .request .backlightoff [] ∧
  decode [0x50, 0x40] = .request (.bright 0x40) [] ∧
  decode [0x60, 0x02, 0x0E, 0x11, 0x11, 0x11, 0x1F, 0x1B, 0x1B, 0x1F] =
    .request (.glyph 2 0x0E 0x11 0x11 0x11 0x1F 0x1B 0x1B 0x1F) [] ∧
  decode [0x70, 0x41] = .request (.write 0x41) []

/-- Placing a table word makes the very next step run exactly the request it decodes to, and leaves the bytes behind
it in place (log 18: the host's placing is the model's choice). -/
def Obligations.PlacedWordRunsNext : Prop :=
  ∀ (s : State) (nbits w : Nat) (i : Instr), s.fault = none → decodeTableWord nbits w = some i →
    step (s.withFetchWord nbits w) = exec i s

/-- 30_encoding.md R78: the four pseudo-instructions and their expansions into requests. -/
def Obligations.PseudoInstructionsExpand : Prop :=
  (∀ b : Bool, expandPseudo (.textdir b) = [if b then .textltr else .textrtl]) ∧
  (∀ b : Bool, expandPseudo (.autoshift b) = [if b then .autoshifton else .autoshiftoff]) ∧
  (∀ b : Bool, expandPseudo (.backlight b) = [if b then .backlighton else .backlightoff]) ∧
  (∀ (c : Byte) (s : List Byte), expandPseudo (.print []) = [] ∧
    expandPseudo (.print (c :: s)) = .write c :: expandPseudo (.print s))

/-! ## Faults -/

/-- 60_exceptions.md R221: the guard's checks, in their order, and no other fault (R227, R229): which requests raise
which fault, in every state that is not halted. -/
def Obligations.GuardRaisesTheFirstFault : Prop :=
  ∀ (i : Instr) (s : State) (r : FaultReason), s.fault = none →
    (exec i s = .next (afterFault s r) ↔
      (r = .alreadyInitialized ∧ i = .init ∧ s.initialized = true) ∨
      (r = .notInitialized ∧ i ≠ .init ∧ s.initialized = false) ∨
      (r = .wrongFamily ∧ s.initialized = true ∧ s.family = .lcd ∧ ∃ v, i = .bright v) ∨
      (r = .wrongFamily ∧ s.initialized = true ∧ s.family = .oled ∧ (i = .backlightoff ∨ i = .backlighton)) ∨
      (r = .badGlyphIndex ∧ s.initialized = true ∧
        ∃ idx m0 m1 m2 m3 m4 m5 m6 m7, i = .glyph idx m0 m1 m2 m3 m4 m5 m6 m7 ∧ 8 ≤ idx.toNat))

/-- 60_exceptions.md R220 and R230: a request that ends with `S.fault` set has written `S.fault` and its result and
nothing else, whichever request it was, and the block is then halted: neither a step nor any request goes on. That
"no step" is this outcome is the model's choice (log 6). -/
def Obligations.FaultsArePreciseAndHalt : Prop :=
  (∀ (i : Instr) (s t : State) (r : FaultReason), exec i s = .next t → t.fault = some r → t = afterFault s r) ∧
  (∀ (s t : State) (r : FaultReason), step s = .next t → t.fault = some r →
    ∃ rest, rest <:+ s.input ∧ t = afterFault { s with input := rest } r) ∧
  (∀ (t : State) (r : FaultReason), t.fault = some r →
    step t = .fault .halted ∧ ∀ j : Instr, exec j t = .fault .halted)

/-- 10_state.md R32: a request that would read an undefined shadow "must fault, not pick a value". The outcome's name
is the model's (log 8). -/
def Obligations.UndefinedShadowIsNotRead : Prop :=
  ∀ (s : State), Ready s →
    (∀ i : Instr, isDisplayRequest i = true → s.displayControl = none → exec i s = .fault .undefinedShadow) ∧
    (∀ i : Instr, isEntryRequest i = true → s.entryMode = none → exec i s = .fault .undefinedShadow)

/-- 60_exceptions.md R228: the fault codes. -/
def Obligations.FaultCodesAreOneToFive : Prop :=
  faultCode .illegalRequest = 1 ∧ faultCode .notInitialized = 2 ∧ faultCode .alreadyInitialized = 3 ∧
  faultCode .wrongFamily = 4 ∧ faultCode .badGlyphIndex = 5

/-! ## Construction -/

/-- 10_state.md R36: the state at construction, for every configuration and all parameters. `input` and `results` are
the model's own fields (logs 4, 5). -/
def Obligations.ConstructionState : Prop :=
  ∀ (P : Params) (f : Family) (a : BusAddr) (r : Rows),
    let s := State.construct P f a r
    s.family = f ∧ s.addr = a ∧ s.rows = r ∧ s.initialized = false ∧ s.fault = none ∧ s.backlight = true ∧
    s.entryMode = none ∧ s.displayControl = none ∧ s.functionSet = none ∧ s.oledRE = none ∧ s.oledSD = none ∧
    s.trace = [] ∧ s.params = P ∧ s.input = [] ∧ s.results = []

/-- 10_state.md R23: "If `ROWS` is outside 1..4, or `ADDR` is greater than 127, no handle is constructed". That the
same construction refuses parameters that fail a check (30_encoding.md R83, R87, R88; 42_oled_backend.md R207) is the
model's choice of where "a model must refuse" them (log 2), and `Params.wf` reads the checks of R207 as the model does:
the last entry's tag (log 11), an unknown RE (log 12), six entries in all (log 13), the sequences held as lists (log 3).
Every other configuration has its handle. -/
def Obligations.ConstructionRefusesIllegalConfigurations : Prop :=
  ∀ (P : Params) (f : Family) (addr rows : Nat),
    ((rows < 1 ∨ 4 < rows ∨ 127 < addr ∨ P.wf = false) → constructHandle P f addr rows = none) ∧
    (1 ≤ rows → rows ≤ 4 → addr ≤ 127 → P.wf = true →
      ∃ r : Rows, r.count = rows ∧ constructHandle P f addr rows = some (State.construct P f (BitVec.ofNat 7 addr) r))

/-- The default parameters pass every check (30_encoding.md R83, R87, R88; 42_oled_backend.md R207), and a `PIN` with
a line twice, or a `CMD` whose two-line flag meets its prefix, passes none. -/
def Obligations.DefaultParametersAreWellFormed : Prop :=
  defaultParams.wf = true ∧
  pinCheck { defaultPin with en := 3 } = false ∧ pinCheck { defaultPin with d7 := 8 } = false ∧
  cmdCheck { defaultCmd with fsetN := 0x20 } = false ∧
  oledModeCheck { defaultOledMode with dataMode := 0x80 } = false

/-! ## The requests -/

/-- 40_command_surface.md R110 on an LCD handle, with the sequence of 41_lcd_backend.md R170: the trace of the five
steps, the three shadows, and nothing else changed. -/
def Obligations.InitOnLcd : Prop :=
  encode .init = [0x01] ∧
  ∀ (s : State), Fresh s → s.family = .lcd →
    let P := s.params
    let fs : FunctionSet := { dl := false, n := decide (s.rows.count > 1), f := false }
    let dc : DisplayControl := { d := true, c := false, b := false }
    let em : EntryMode := { id := true, sh := false }
    let sync := lcdStrobeEvents s (nibSync P.cmd) false ++ [.wait P.timing.tSync]
    exec .init s = .next (afterOk
      { s with initialized := true, functionSet := some fs, displayControl := some dc, entryMode := some em }
      ([.wait P.timing.tPowerup] ++
       [.txn s.addr [lcdByte P.pin 0 false false s.backlight], .wait P.timing.tBlSettle] ++
       (sync ++ sync ++ sync) ++
       lcdStrobeEvents s (nib4bit P.cmd) false ++
       lcdSendEvents s (cmdFunction P.cmd fs) false ++
       lcdSendEvents s (cmdDisplay P.cmd dc) false ++
       lcdSendEvents s (cmdEntry P.cmd em) false ++
       (lcdSendEvents s P.cmd.clear false ++ [.wait P.timing.tClear]) ++
       lcdSendEvents s (cmdSetDdram P.cmd P.rowOffset.row0.toNat) false)
      none)

/-- 40_command_surface.md R110 on an OLED handle, with 42_oled_backend.md R200 and R202: the fixed sequence, the tail
with or without its commands, `clear()` and `home()`; the toggle is where the sequence's tags leave it. -/
def Obligations.InitOnOled : Prop :=
  ∀ (s : State), Fresh s → s.family = .oled →
    let P := s.params
    let q := initSeqOf P.oledInitSeq s.rows
    let fs : FunctionSet := { dl := false, n := decide (s.rows.count > 1), f := false }
    let dc : DisplayControl := { d := true, c := false, b := false }
    let em : EntryMode := { id := true, sh := false }
    exec .init s = .next (afterOk
      { s with
        initialized := true, functionSet := some fs, displayControl := some dc, entryMode := some em
        oledRE := (replayTags (s.oledRE, s.oledSD) q).1, oledSD := (replayTags (s.oledRE, s.oledSD) q).2 }
      (q.flatMap (entryEvents s) ++
       (if P.oledTailSends then
          oledCommandEvents s (cmdFunction P.cmd fs) ++ oledCommandEvents s (cmdDisplay P.cmd dc) ++
          oledCommandEvents s (cmdEntry P.cmd em)
        else []) ++
       (oledCommandEvents s P.cmd.clear ++ [.wait P.timing.tClear]) ++
       oledCommandEvents s (cmdSetDdram P.cmd P.rowOffset.row0.toNat))
      none)

/-- 60_exceptions.md R223: INIT on an initialised handle raises `AlreadyInitialized`. -/
def Obligations.SecondInitFaults : Prop :=
  ∀ (s : State), Ready s → exec .init s = .next (afterFault s .alreadyInitialized)

/-- 40_command_surface.md R111: one command, then `Wait(T_CLEAR)`, two events not merged; no shadow changes. The
spec's value of `T_CLEAR` is at least 1530 µs; that other parameters are not refused for it is the model's choice
(log 20), and no clause rests on it. -/
def Obligations.ClearSendsThenWaits : Prop :=
  encode .clear = [0x02] ∧
  (∀ s : State, Ready s →
    exec .clear s = .next (afterOk s (commandEvents s s.params.cmd.clear ++ [.wait s.params.timing.tClear]) none)) ∧
  (∀ s : State, Fresh s → exec .clear s = .next (afterFault s .notInitialized)) ∧ 1530 ≤ defaultTiming.tClear

/-- 40_command_surface.md R112: home sends the address of row 0 and is `MOVE 0, 0` in every state. -/
def Obligations.HomeIsMoveToOrigin : Prop :=
  encode .home = [0x03] ∧
  (∀ s : State, Ready s →
    exec .home s = .next (afterOk s (commandEvents s (cmdSetDdram s.params.cmd s.params.rowOffset.row0.toNat)) none)) ∧
  (∀ s : State, exec .home s = exec (.move 0 0) s) ∧
  (∀ s : State, Fresh s → exec .home s = .next (afterFault s .notInitialized))

/-- 40_command_surface.md R113: the clamp, the address as an unbounded sum, its truncation into one command; and a row
at or above `S.rows` behaves exactly as the last row, in every state. -/
def Obligations.MoveSendsClampedAddress : Prop :=
  (∀ row col : Byte, encode (.move row col) = [0x04, row, col]) ∧
  (∀ (s : State) (row col : Byte), Ready s →
    let r := if row.toNat > s.rows.count - 1 then s.rows.count - 1 else row.toNat
    let a := col.toNat + (rowOffsetAt s.params.rowOffset r).toNat
    exec (.move row col) s =
      .next (afterOk s (commandEvents s (BitVec.ofNat 8 (s.params.cmd.setDdram.toNat ||| a))) none)) ∧
  (∀ (s : State) (row col : Byte), s.rows.count ≤ row.toNat →
    exec (.move row col) s = exec (.move (BitVec.ofNat 8 (s.rows.count - 1)) col) s) ∧
  (∀ (s : State) (row col : Byte), Fresh s → exec (.move row col) s = .next (afterFault s .notInitialized))

/-- 40_command_surface.md R116 to R121: each request writes its own flag of the display-control shadow, keeps the
other two, and re-sends the whole byte, whatever the flag was. -/
def Obligations.DisplayRequestsRewriteOneFlag : Prop :=
  (encode .dispoff = [0x10] ∧ encode .dispon = [0x11] ∧ encode .cursoroff = [0x12] ∧ encode .cursoron = [0x13] ∧
   encode .blinkoff = [0x14] ∧ encode .blinkon = [0x15]) ∧
  (∀ (s : State) (dc : DisplayControl), Ready s → s.displayControl = some dc →
    let sent (x : DisplayControl) : StepOutcome :=
      .next (afterOk { s with displayControl := some x } (commandEvents s (cmdDisplay s.params.cmd x)) none)
    exec .dispon s = sent { dc with d := true } ∧ exec .dispoff s = sent { dc with d := false } ∧
    exec .cursoron s = sent { dc with c := true } ∧ exec .cursoroff s = sent { dc with c := false } ∧
    exec .blinkon s = sent { dc with b := true } ∧ exec .blinkoff s = sent { dc with b := false }) ∧
  (∀ (s : State) (i : Instr), Fresh s → isDisplayRequest i = true → exec i s = .next (afterFault s .notInitialized))

/-- 40_command_surface.md R126 and R127: each request writes its own flag of the entry-mode shadow, keeps the other,
and re-sends the whole byte. -/
def Obligations.EntryRequestsRewriteOneFlag : Prop :=
  (encode .textrtl = [0x30] ∧ encode .textltr = [0x31] ∧ encode .autoshiftoff = [0x32] ∧
   encode .autoshifton = [0x33]) ∧
  (∀ (s : State) (em : EntryMode), Ready s → s.entryMode = some em →
    let sent (x : EntryMode) : StepOutcome :=
      .next (afterOk { s with entryMode := some x } (commandEvents s (cmdEntry s.params.cmd x)) none)
    exec .textltr s = sent { em with id := true } ∧ exec .textrtl s = sent { em with id := false } ∧
    exec .autoshifton s = sent { em with sh := true } ∧ exec .autoshiftoff s = sent { em with sh := false }) ∧
  (∀ (s : State) (i : Instr), Fresh s → isEntryRequest i = true → exec i s = .next (afterFault s .notInitialized))

/-- 40_command_surface.md R122 to R125: one command, target and direction in its two flag bits; no state but the trace
and the result changes. -/
def Obligations.ShiftsAreStateless : Prop :=
  (encode .shcurl = [0x20] ∧ encode .shcurr = [0x21] ∧ encode .shdispl = [0x22] ∧ encode .shdispr = [0x23]) ∧
  (∀ (s : State), Ready s →
    let C := s.params.cmd
    let sent (c : Byte) : StepOutcome := .next (afterOk s (commandEvents s c) none)
    exec .shdispl s = sent (C.shift ||| C.shiftSc) ∧ exec .shdispr s = sent (C.shift ||| C.shiftSc ||| C.shiftRl) ∧
    exec .shcurl s = sent C.shift ∧ exec .shcurr s = sent (C.shift ||| C.shiftRl)) ∧
  (∀ (s : State), Fresh s → ∀ i ∈ [Instr.shcurl, .shcurr, .shdispl, .shdispr],
    exec i s = .next (afterFault s .notInitialized))

/-- 40_command_surface.md R128: the CGRAM address command of `index*8`, then the 8 bitmap bytes in order and
unmodified; an index of 8 or more faults with no event. -/
def Obligations.GlyphSendsAddressThenBitmap : Prop :=
  (∀ idx m0 m1 m2 m3 m4 m5 m6 m7 : Byte,
    encode (.glyph idx m0 m1 m2 m3 m4 m5 m6 m7) = [0x60, idx, m0, m1, m2, m3, m4, m5, m6, m7]) ∧
  (∀ (s : State) (idx m0 m1 m2 m3 m4 m5 m6 m7 : Byte), Ready s → idx.toNat < 8 →
    exec (.glyph idx m0 m1 m2 m3 m4 m5 m6 m7) s = .next (afterOk s
      (commandEvents s (BitVec.ofNat 8 (s.params.cmd.setCgram.toNat ||| idx.toNat * 8)) ++
       dataEvents s m0 ++ dataEvents s m1 ++ dataEvents s m2 ++ dataEvents s m3 ++
       dataEvents s m4 ++ dataEvents s m5 ++ dataEvents s m6 ++ dataEvents s m7) none)) ∧
  (∀ (s : State) (idx m0 m1 m2 m3 m4 m5 m6 m7 : Byte), Ready s → 8 ≤ idx.toNat →
    exec (.glyph idx m0 m1 m2 m3 m4 m5 m6 m7) s = .next (afterFault s .badGlyphIndex)) ∧
  (∀ (s : State) (idx m0 m1 m2 m3 m4 m5 m6 m7 : Byte), Fresh s →
    exec (.glyph idx m0 m1 m2 m3 m4 m5 m6 m7) s = .next (afterFault s .notInitialized))

/-- 40_command_surface.md R129: on OLED the brightness sequence of `v` is sent, the toggle goes where its tags lead,
which with well-formed parameters is RE = SD = 0 (under the default, by way of RE = SD = 1), and the value is stored
nowhere; on LCD it is `WrongFamily`. -/
def Obligations.BrightSendsItsSequence : Prop :=
  (∀ v : Byte, encode (.bright v) = [0x50, v]) ∧
  (∀ (s : State) (v : Byte), Ready s → s.family = .oled →
    let q := brightSeqOf s.params.oledBrightSeq v
    exec (.bright v) s = .next (afterOk
      { s with oledRE := (replayTags (s.oledRE, s.oledSD) q).1, oledSD := (replayTags (s.oledRE, s.oledSD) q).2 }
      (q.flatMap (entryEvents s)) none) ∧
    (s.params.wf = true → replayTags (s.oledRE, s.oledSD) q = (some false, some false))) ∧
  (∀ (s : State) (v : Byte), Ready s → s.family = .lcd → exec (.bright v) s = .next (afterFault s .wrongFamily)) ∧
  (∀ (s : State) (v : Byte), Fresh s → exec (.bright v) s = .next (afterFault s .notInitialized)) ∧
  (∀ (t : Toggle) (v : Byte), replayTags t ((brightSeqOf defaultOledBrightSeq v).take 2) = (some true, some true))

/-- 40_command_surface.md R130: `S.backlight` is written and one raw byte carries the new value, repeated or not, and
so does every byte of a later logical byte; on OLED it is `WrongFamily` and `S.backlight` keeps its value. -/
def Obligations.BacklightWritesAndSendsRawByte : Prop :=
  (encode .backlightoff = [0x40] ∧ encode .backlighton = [0x41]) ∧
  (∀ (s : State), Ready s → s.family = .lcd →
    let sent (b : Bool) : StepOutcome :=
      .next (afterOk { s with backlight := b } [.txn s.addr [lcdByte s.params.pin 0 false false b]] none)
    exec .backlightoff s = sent false ∧ exec .backlighton s = sent true) ∧
  (∀ (s : State), Ready s → s.family = .oled →
    exec .backlightoff s = .next (afterFault s .wrongFamily) ∧
    exec .backlighton s = .next (afterFault s .wrongFamily)) ∧
  (∀ (s : State), Fresh s →
    exec .backlightoff s = .next (afterFault s .notInitialized) ∧
    exec .backlighton s = .next (afterFault s .notInitialized)) ∧
  (∀ (s : State) (b rs : Bool) (c x : Byte), pinCheck s.params.pin = true →
    x ∈ busBytes (lcdSendEvents { s with backlight := b } c rs) → x.getLsbD s.params.pin.bl = b)

/-- 40_command_surface.md R131: one data byte, whatever its value, and the result is 1. -/
def Obligations.WriteSendsOneDataByte : Prop :=
  (∀ v : Byte, encode (.write v) = [0x70, v]) ∧
  (∀ (s : State) (v : Byte), Ready s → exec (.write v) s = .next (afterOk s (dataEvents s v) (some 1))) ∧
  (∀ (s : State) (v : Byte), Fresh s → exec (.write v) s = .next (afterFault s .notInitialized))

/-- 40_command_surface.md R132: any sequence of display requests after INIT runs, the shadow is the accumulation in
call order from {D=1, C=0, B=0}, and the last command sent is its byte; the same for entry mode from {ID=1, SH=0}. -/
def Obligations.ShadowsAccumulateInCallOrder : Prop :=
  (∀ (s : State) (reqs : List Instr), Fresh s → (∀ i ∈ reqs, isDisplayRequest i = true) →
    let dc := reqs.foldl accumulateDisplay { d := true, c := false, b := false }
    ∃ t : State, execAll (.init :: reqs) s = .next t ∧ t.displayControl = some dc ∧
      (reqs ≠ [] → commandEvents s (cmdDisplay s.params.cmd dc) <:+ t.trace)) ∧
  (∀ (s : State) (reqs : List Instr), Fresh s → (∀ i ∈ reqs, isEntryRequest i = true) →
    let em := reqs.foldl accumulateEntry { id := true, sh := false }
    ∃ t : State, execAll (.init :: reqs) s = .next t ∧ t.entryMode = some em ∧
      (reqs ≠ [] → commandEvents s (cmdEntry s.params.cmd em) <:+ t.trace))

/-! ## The LCD protocol -/

/-- 41_lcd_backend.md R163 and R165: a logical byte is two strobes, high nibble first, each EN low, EN high, hold, EN
low, hold; every byte is one 1-byte transaction and carries `S.backlight` (R161, R162). -/
def Obligations.LcdLogicalByteFraming : Prop :=
  ∀ (s : State) (c : Byte) (rs : Bool),
    let b (nib : Nibble) (en : Bool) : Event := .txn s.addr [lcdByte s.params.pin nib rs en s.backlight]
    let w : Event := .wait s.params.timing.tEnHold
    (∀ nib : Nibble, lcdStrobeEvents s nib rs = [b nib false, b nib true, w, b nib false, w]) ∧
    lcdSendEvents s c rs =
      lcdStrobeEvents s (c.extractLsb' 4 4) rs ++ lcdStrobeEvents s (c.extractLsb' 0 4) rs

/-- 41_lcd_backend.md R168: on an LCD handle every `sendCommand` and `sendData` emits exactly 6 bus writes; RS is 0 in
all six of a command and 1 in all six of a data byte; BL is `S.backlight` in all six; RW is 0. -/
def Obligations.LcdSixWritesWithTheirLines : Prop :=
  ∀ (s : State) (c : Byte), s.family = .lcd → pinCheck s.params.pin = true →
    let P := s.params.pin
    let ok (rs : Bool) (es : List Event) : Prop :=
      txnCount es = 6 ∧ (busBytes es).length = 6 ∧
      ∀ b ∈ busBytes es, b.getLsbD P.rs = rs ∧ b.getLsbD P.bl = s.backlight ∧ b.getLsbD P.rwLine = false
    ok false (newEvents s (sendCommand c s)) ∧ ok true (newEvents s (sendData c s))

/-- 41_lcd_backend.md R163: the strobe's five events, b0, b1, hold, b0, hold; b0 and b1 "differ only in the EN line",
low in b0 and high in b1. -/
def Obligations.StrobeBytesDifferInEnOnly : Prop :=
  (∀ (s : State) (nib : Nibble) (rs : Bool),
    let b0 := lcdByte s.params.pin nib rs false s.backlight
    let b1 := lcdByte s.params.pin nib rs true s.backlight
    lcdStrobeEvents s nib rs = [.txn s.addr [b0], .txn s.addr [b1], .wait s.params.timing.tEnHold,
      .txn s.addr [b0], .wait s.params.timing.tEnHold]) ∧
  ∀ (P : Pin) (nib : Nibble) (rs bl : Bool) (k : Nat), pinCheck P = true →
    (lcdByte P nib rs true bl).getLsbD k = (if k = P.en then true else (lcdByte P nib rs false bl).getLsbD k) ∧
    (lcdByte P nib rs false bl).getLsbD P.en = false

/-- 41_lcd_backend.md R167: as the expander shows the six bytes of a logical byte, from any byte with EN low, the
controller latches exactly the high nibble and then the low one, each with its RS. -/
def Obligations.LcdByteIsLatchedAsTwoNibbles : Prop :=
  ∀ (s : State) (c prev : Byte) (rs : Bool), pinCheck s.params.pin = true → prev.getLsbD s.params.pin.en = false →
    latched s.params.pin prev (busBytes (lcdSendEvents s c rs)) = [(rs, hiNibble c), (rs, loNibble c)]

/-- 30_encoding.md R86: the expander byte under the default `PIN`, for every nibble and every line. -/
def Obligations.ExpanderByteUnderDefaultPins : Prop :=
  ∀ (nib : Nibble) (rs en bl : Bool),
    lcdByte defaultPin nib rs en bl =
      (nib.setWidth 8 <<< 4) ||| ((BitVec.ofBool bl).setWidth 8 <<< 3) ||| ((BitVec.ofBool en).setWidth 8 <<< 2) |||
      (BitVec.ofBool rs).setWidth 8

/-- 30_encoding.md R84 with check R83: the synchronisation nibble is 3 for every well-formed `CMD`, and the single
nibbles of the sequencer carry the whole byte; under the default the 4-bit switch is 2. -/
def Obligations.InitNibbles : Prop :=
  (∀ C : Cmd, cmdCheck C = true →
    nibSync C = 3 ∧ (nib4bit C).setWidth 8 <<< 4 = C.fset ∧ (nibSync C).setWidth 8 <<< 4 = C.fset ||| C.fsetDl) ∧
  nib4bit defaultCmd = 2

/-- 41_lcd_backend.md R176: the LCD init trace has 43 transactions and 34 waits for every `ROWS` and all parameters,
and the waits total 1114928 µs under the timing of 00_scope.md R8. -/
def Obligations.LcdInitTraceSize : Prop :=
  ∀ (s t : State), Fresh s → s.family = .lcd → exec .init s = .next t →
    txnCount (newEvents s t) = 43 ∧ waitCount (newEvents s t) = 34 ∧
    (s.params.timing = defaultTiming → waitTotal (newEvents s t) = 1114928)

/-! ## The OLED protocol -/

/-- 42_oled_backend.md R193: on an OLED handle a command is one 2-byte transaction led by `CMD_MODE` and then
`Wait(T_OLED_CMD)`, and a data byte one 2-byte transaction led by `DATA_MODE` and nothing more. -/
def Obligations.OledByteFraming : Prop :=
  ∀ (s : State) (c : Byte), s.family = .oled →
    sendCommand c s = { s with
      trace := s.trace ++ [.txn s.addr [s.params.oledMode.cmdMode, c], .wait s.params.timing.tOledCmd] } ∧
    sendData c s = { s with trace := s.trace ++ [.txn s.addr [s.params.oledMode.dataMode, c]] }

/-- 42_oled_backend.md R195 and R196: a sequence sends its entries in order, each command by the command primitive and
each data byte by the data primitive, and its tags set the toggle; it changes nothing else. -/
def Obligations.OledSequenceSendsInOrder : Prop :=
  ∀ (s : State) (q : List SeqEntry),
    oledSendSeq q s =
      { s with
        trace := s.trace ++ q.flatMap fun e =>
          match e with
          | .cmd b _ => [.txn s.addr [s.params.oledMode.cmdMode, b], .wait s.params.timing.tOledCmd]
          | .dat b => [.txn s.addr [s.params.oledMode.dataMode, b]]
        oledRE := q.foldl (fun re e => match e with
          | .cmd _ .re1 => some true
          | .cmd _ .re0 => some false
          | _ => re) s.oledRE
        oledSD := q.foldl (fun sd e => match e with
          | .cmd _ .sd1 => some true
          | .cmd _ .sd0 => some false
          | _ => sd) s.oledSD }

/-- 42_oled_backend.md R197: with well-formed parameters, INIT and BRIGHT on an OLED handle end with RE = SD = 0,
wherever the toggle was before. -/
def Obligations.ToggleEndsInFundamentalSet : Prop :=
  ∀ (s t : State) (i : Instr), s.params.wf = true → s.family = .oled → (i = .init ∨ ∃ v, i = .bright v) →
    exec i s = .next t → t.fault = none → t.oledRE = some false ∧ t.oledSD = some false

/-- 42_oled_backend.md R204: the OLED init trace under the default parameters, for every `rows`. -/
def Obligations.OledInitTraceSize : Prop :=
  ∀ (s t : State), Fresh s → s.family = .oled → s.params = defaultParams → exec .init s = .next t →
    txnCount (newEvents s t) = 30 ∧ waitCount (newEvents s t) = 30 ∧ waitTotal (newEvents s t) = 292000

/-- 42_oled_backend.md R203 and R201: the default sequence has 25 entries, 24 of them commands; entry 22 selects the
3/4-line variant exactly when `rows` > 2, and no other entry depends on `rows`. -/
def Obligations.OledInitLineSelection : Prop :=
  ∀ r r' : Rows,
    (initSeqOf defaultOledInitSeq r).length = 25 ∧
    (initSeqOf defaultOledInitSeq r)[21]? = some (.cmd (if r.count > 2 then 0x09 else 0x08) .keep) ∧
    ((initSeqOf defaultOledInitSeq r).filter fun e => match e with
      | .cmd _ _ => true
      | .dat _ => false).length = 24 ∧
    (∀ k : Nat, k ≠ 21 → (initSeqOf defaultOledInitSeq r)[k]? = (initSeqOf defaultOledInitSeq r')[k]?)

/-- 42_oled_backend.md R206: the default brightness sequence, and that a well-formed one sends `v` unmodified at one
place that does not depend on `v`, the other five entries being the same for every value (R207 check 4). Six entries in
all is the model's reading of check 4 (log 13); that the other entries do not depend on `v` holds by the model's form
of the sequence, a list with a marked place for the value (log 3). -/
def Obligations.BrightnessSequenceShape : Prop :=
  (∀ v : Byte, brightSeqOf defaultOledBrightSeq v =
    [.cmd 0x2A .re1, .cmd 0x79 .sd1, .cmd 0x81 .keep, .cmd v .keep, .cmd 0x78 .sd0, .cmd 0x28 .re0]) ∧
  (∀ q : List BrightEntry, oledBrightSeqCheck q = true →
    ∃ k : Nat, k < 6 ∧ ∀ v w : Byte, (brightSeqOf q v).length = 6 ∧ (brightSeqOf q v)[k]? = some (.cmd v .keep) ∧
      ∀ j : Nat, j ≠ k → (brightSeqOf q v)[j]? = (brightSeqOf q w)[j]?)

/-! ## Operand arithmetic -/

/-- 30_encoding.md R82: under the default `CMD` the set-DDRAM byte of any natural address is `0x80 | a[6:0]`, and the
set-CGRAM byte of a legal glyph is `0x40 | idx*8`, below the set-DDRAM codes. -/
def Obligations.AddressCommandsUnderDefaultCodes : Prop :=
  (∀ a : Nat, cmdSetDdram defaultCmd a = 0x80#8 ||| BitVec.ofNat 8 (a % 128)) ∧
  (∀ idx : Nat, idx < 8 → (cmdSetCgram defaultCmd (cgramAddr idx)).toNat = 0x40 + idx * 8)

/-- 20_memory.md R57, 10_state.md R29, 30_encoding.md R81: the shadow bytes under the default codes: every function
set, display control and entry mode, and the default row bases. -/
def Obligations.ShadowBytesUnderDefaultCodes : Prop :=
  (∀ d c b : Bool, (cmdDisplay defaultCmd { d := d, c := c, b := b }).toNat =
    8 + (if d then 4 else 0) + (if c then 2 else 0) + (if b then 1 else 0)) ∧
  (∀ i h : Bool, (cmdEntry defaultCmd { id := i, sh := h }).toNat =
    4 + (if i then 2 else 0) + (if h then 1 else 0)) ∧
  (∀ l n f : Bool, (cmdFunction defaultCmd { dl := l, n := n, f := f }).toNat =
    32 + (if l then 16 else 0) + (if n then 8 else 0) + (if f then 4 else 0)) ∧
  [0, 1, 2, 3].map (fun r => (rowOffsetAt defaultRowOffset r).toNat) = [0x00, 0x40, 0x14, 0x54]

/-- 30_encoding.md R83 check 1 means something: with a well-formed `CMD`, two different values of a shadow whose flags
all have a code are sent as different bytes, so the controller can tell them apart. -/
def Obligations.ShadowBytesAreInjective : Prop :=
  ∀ C : Cmd, cmdCheck C = true →
    (C.dctlD ≠ 0 → C.dctlC ≠ 0 → C.dctlB ≠ 0 → ∀ x y : DisplayControl, cmdDisplay C x = cmdDisplay C y → x = y) ∧
    (C.entryId ≠ 0 → C.entrySh ≠ 0 → ∀ x y : EntryMode, cmdEntry C x = cmdEntry C y → x = y) ∧
    (C.fsetDl ≠ 0 → C.fsetN ≠ 0 → C.fsetF ≠ 0 → ∀ x y : FunctionSet, cmdFunction C x = cmdFunction C y → x = y)

/-! ## The whole machine -/

/-- 10_state.md R22: `S.family`, `S.addr` and `S.rows` are those of the construction, and no request writes them, run
by a step or by itself. Nor does any request write the parameters: they are arguments of the model (00_scope.md R7) and
constants no request writes (20_memory.md R61); that they stand in `State.params`, which no step writes, is the model's
choice (log 2). -/
def Obligations.ConfigurationIsNeverWritten : Prop :=
  (∀ (P : Params) (f : Family) (a : BusAddr) (r : Rows),
    (State.construct P f a r).family = f ∧ (State.construct P f a r).addr = a ∧ (State.construct P f a r).rows = r) ∧
  (∀ (s t : State), (step s = .next t ∨ ∃ i : Instr, exec i s = .next t) →
    t.family = s.family ∧ t.addr = s.addr ∧ t.rows = s.rows ∧ t.params = s.params)

/-- 10_state.md R36, column "written by": which requests may change each field; no request changes the bytes of later
requests (30_encoding.md R70; that they stand in `State.input` is the model's choice, log 4). -/
def Obligations.OnlyListedRequestsWriteEachField : Prop :=
  ∀ (i : Instr) (s t : State), exec i s = .next t →
    t.input = s.input ∧
    (t.initialized ≠ s.initialized → i = .init ∧ t.initialized = true) ∧
    (t.fault ≠ s.fault → ∃ r, t = afterFault s r) ∧
    (t.backlight ≠ s.backlight → s.family = .lcd ∧ (i = .backlightoff ∨ i = .backlighton)) ∧
    (t.entryMode ≠ s.entryMode → i = .init ∨ isEntryRequest i = true) ∧
    (t.displayControl ≠ s.displayControl → i = .init ∨ isDisplayRequest i = true) ∧
    (t.functionSet ≠ s.functionSet → i = .init) ∧
    ((t.oledRE ≠ s.oledRE ∨ t.oledSD ≠ s.oledSD) → s.family = .oled ∧ (i = .init ∨ ∃ v, i = .bright v))

/-- 10_state.md R33: the trace "is only ever appended to"; and each request adds exactly one result, the last of the
list (the list is the model's own, log 5). -/
def Obligations.TraceIsOnlyAppendedTo : Prop :=
  ∀ (s t : State), step s = .next t →
    s.trace <+: t.trace ∧ ∃ r : Result, t.results = s.results ++ [r] ∧ (isOk r = true ↔ t.fault = none)

/-- 20_memory.md R52, R55 and 30_encoding.md R89: every transaction a request adds names `S.addr` and has one byte on
LCD, two on OLED; and the calls of the trace are those of the events before, then those of the new ones (R59). -/
def Obligations.NewTransactionsAreAddressedAndFramed : Prop :=
  ∀ (i : Instr) (s t : State), exec i s = .next t →
    (∀ (a : BusAddr) (bs : List Byte), Event.txn a bs ∈ newEvents s t →
      a = s.addr ∧ bs.length = (match s.family with | .lcd => 1 | .oled => 2) ∧
      hostCalls (.txn a bs) = .beginTransaction s.addr :: bs.map .writeByte ++ [.endTransaction]) ∧
    traceCalls t.trace = traceCalls s.trace ++ traceCalls (newEvents s t)

/-- 40_command_surface.md R134: the pattern of transactions and waits a request emits is fixed by the request, the
configuration and the parameters; no history, shadow, backlight or toggle moves it. -/
def Obligations.EventPatternIsFixedByConfiguration : Prop :=
  ∀ (i : Instr) (s s' t t' : State), s'.family = s.family → s'.rows = s.rows → s'.params = s.params →
    exec i s = .next t → exec i s' = .next t' → t.fault = none → t'.fault = none →
    (newEvents s t).map eventShape = (newEvents s' t').map eventShape

/-- 40_command_surface.md R110 and 90_conflicts.md C3: two handles of equal configuration, parameters and backlight
emit equal init traces. -/
def Obligations.InitIsDeterministicInConfiguration : Prop :=
  ∀ (s s' t t' : State), s'.family = s.family → s'.addr = s.addr → s'.rows = s.rows → s'.params = s.params →
    s'.backlight = s.backlight → exec .init s = .next t → exec .init s' = .next t' →
    t.fault = none → t'.fault = none → newEvents s' t' = newEvents s t

/-- 70_reset_and_hazards.md R261: T, W and µs of every request on both families under the default parameters, for
every `ROWS`; a request that faults emits nothing. -/
def Obligations.RequestCountsOfTheTable : Prop :=
  ∀ (i : Instr) (s t : State), s.params = defaultParams → exec i s = .next t →
    (txnCount (newEvents s t), waitCount (newEvents s t), waitTotal (newEvents s t)) =
      if t.fault = none then tableCounts s.family i else (0, 0, 0)

/-- 10_state.md R30 and 92_eei_decisions.md D27: the toggle is ghost state: no output, result or other field depends
on it, for any request and any step. -/
def Obligations.ToggleIsGhostState : Prop :=
  (∀ (i : Instr) (s : State),
    seenThrough forgetToggle (exec i s) = seenThrough forgetToggle (exec i (forgetToggle s))) ∧
  (∀ s : State, seenThrough forgetToggle (step s) = seenThrough forgetToggle (step (forgetToggle s)))

/-- A new handle with well-formed parameters meets the invariant of a handle; so does `State.reset`, whose
configuration is the model's choice (log 1). -/
def Obligations.ConstructionMeetsTheInvariant : Prop :=
  (∀ (P : Params) (f : Family) (a : BusAddr) (r : Rows), P.wf = true →
    handleInv (State.construct P f a r) = true) ∧
  handleInv State.reset = true

/-- Every step keeps the invariant of a handle: well-formed parameters; a trace of transactions to `S.addr` only, in
its family's shape and with RW low, and of its family's waits only (20_memory.md R52, R55; 30_encoding.md R86, R89;
70_reset_and_hazards.md R256); shadows undefined before INIT and defined after, function set as INIT left it, the toggle at
rest (10_state.md R27 to R30; 70_reset_and_hazards.md R251; 42_oled_backend.md R197); results that agree with the
fault (60_exceptions.md R220). -/
def Obligations.StepKeepsTheInvariant : Prop :=
  ∀ (s t : State), handleInv s = true → step s = .next t → handleInv t = true
end

