-- ==== Sys2Proof/Laws/State.lean ====
section
/-! SUPPORT. What each update of the handle does to each field: one lemma per field per update, true by rfl, so
that no later proof unfolds a record update. -/

namespace Sys2Proof.Machine

variable (s : State)

@[simp] theorem emit_family (es : List Event) : (emit es s).family = s.family := rfl
@[simp] theorem emit_addr (es : List Event) : (emit es s).addr = s.addr := rfl
@[simp] theorem emit_rows (es : List Event) : (emit es s).rows = s.rows := rfl
@[simp] theorem emit_params (es : List Event) : (emit es s).params = s.params := rfl
@[simp] theorem emit_initialized (es : List Event) : (emit es s).initialized = s.initialized := rfl
@[simp] theorem emit_fault (es : List Event) : (emit es s).fault = s.fault := rfl
@[simp] theorem emit_backlight (es : List Event) : (emit es s).backlight = s.backlight := rfl
@[simp] theorem emit_entryMode (es : List Event) : (emit es s).entryMode = s.entryMode := rfl
@[simp] theorem emit_displayControl (es : List Event) : (emit es s).displayControl = s.displayControl := rfl
@[simp] theorem emit_functionSet (es : List Event) : (emit es s).functionSet = s.functionSet := rfl
@[simp] theorem emit_oledRE (es : List Event) : (emit es s).oledRE = s.oledRE := rfl
@[simp] theorem emit_oledSD (es : List Event) : (emit es s).oledSD = s.oledSD := rfl
@[simp] theorem emit_trace (es : List Event) : (emit es s).trace = s.trace ++ es := rfl
@[simp] theorem emit_input (es : List Event) : (emit es s).input = s.input := rfl
@[simp] theorem emit_results (es : List Event) : (emit es s).results = s.results := rfl

@[simp] theorem setInitialized_family : (setInitialized s).family = s.family := rfl
@[simp] theorem setInitialized_addr : (setInitialized s).addr = s.addr := rfl
@[simp] theorem setInitialized_rows : (setInitialized s).rows = s.rows := rfl
@[simp] theorem setInitialized_params : (setInitialized s).params = s.params := rfl
@[simp] theorem setInitialized_initialized : (setInitialized s).initialized = true := rfl
@[simp] theorem setInitialized_fault : (setInitialized s).fault = s.fault := rfl
@[simp] theorem setInitialized_backlight : (setInitialized s).backlight = s.backlight := rfl
@[simp] theorem setInitialized_entryMode : (setInitialized s).entryMode = s.entryMode := rfl
@[simp] theorem setInitialized_displayControl : (setInitialized s).displayControl = s.displayControl := rfl
@[simp] theorem setInitialized_functionSet : (setInitialized s).functionSet = s.functionSet := rfl
@[simp] theorem setInitialized_oledRE : (setInitialized s).oledRE = s.oledRE := rfl
@[simp] theorem setInitialized_oledSD : (setInitialized s).oledSD = s.oledSD := rfl
@[simp] theorem setInitialized_trace : (setInitialized s).trace = s.trace := rfl
@[simp] theorem setInitialized_input : (setInitialized s).input = s.input := rfl
@[simp] theorem setInitialized_results : (setInitialized s).results = s.results := rfl

@[simp] theorem setBacklight_family (b : Bool) : (setBacklight b s).family = s.family := rfl
@[simp] theorem setBacklight_addr (b : Bool) : (setBacklight b s).addr = s.addr := rfl
@[simp] theorem setBacklight_rows (b : Bool) : (setBacklight b s).rows = s.rows := rfl
@[simp] theorem setBacklight_params (b : Bool) : (setBacklight b s).params = s.params := rfl
@[simp] theorem setBacklight_initialized (b : Bool) : (setBacklight b s).initialized = s.initialized := rfl
@[simp] theorem setBacklight_fault (b : Bool) : (setBacklight b s).fault = s.fault := rfl
@[simp] theorem setBacklight_backlight (b : Bool) : (setBacklight b s).backlight = b := rfl
@[simp] theorem setBacklight_entryMode (b : Bool) : (setBacklight b s).entryMode = s.entryMode := rfl
@[simp] theorem setBacklight_displayControl (b : Bool) : (setBacklight b s).displayControl = s.displayControl := rfl
@[simp] theorem setBacklight_functionSet (b : Bool) : (setBacklight b s).functionSet = s.functionSet := rfl
@[simp] theorem setBacklight_oledRE (b : Bool) : (setBacklight b s).oledRE = s.oledRE := rfl
@[simp] theorem setBacklight_oledSD (b : Bool) : (setBacklight b s).oledSD = s.oledSD := rfl
@[simp] theorem setBacklight_trace (b : Bool) : (setBacklight b s).trace = s.trace := rfl
@[simp] theorem setBacklight_input (b : Bool) : (setBacklight b s).input = s.input := rfl
@[simp] theorem setBacklight_results (b : Bool) : (setBacklight b s).results = s.results := rfl

@[simp] theorem setEntryMode_family (em : EntryMode) : (setEntryMode em s).family = s.family := rfl
@[simp] theorem setEntryMode_addr (em : EntryMode) : (setEntryMode em s).addr = s.addr := rfl
@[simp] theorem setEntryMode_rows (em : EntryMode) : (setEntryMode em s).rows = s.rows := rfl
@[simp] theorem setEntryMode_params (em : EntryMode) : (setEntryMode em s).params = s.params := rfl
@[simp] theorem setEntryMode_initialized (em : EntryMode) : (setEntryMode em s).initialized = s.initialized := rfl
@[simp] theorem setEntryMode_fault (em : EntryMode) : (setEntryMode em s).fault = s.fault := rfl
@[simp] theorem setEntryMode_backlight (em : EntryMode) : (setEntryMode em s).backlight = s.backlight := rfl
@[simp] theorem setEntryMode_entryMode (em : EntryMode) : (setEntryMode em s).entryMode = some em := rfl
@[simp] theorem setEntryMode_displayControl (em : EntryMode) : (setEntryMode em s).displayControl = s.displayControl := rfl
@[simp] theorem setEntryMode_functionSet (em : EntryMode) : (setEntryMode em s).functionSet = s.functionSet := rfl
@[simp] theorem setEntryMode_oledRE (em : EntryMode) : (setEntryMode em s).oledRE = s.oledRE := rfl
@[simp] theorem setEntryMode_oledSD (em : EntryMode) : (setEntryMode em s).oledSD = s.oledSD := rfl
@[simp] theorem setEntryMode_trace (em : EntryMode) : (setEntryMode em s).trace = s.trace := rfl
@[simp] theorem setEntryMode_input (em : EntryMode) : (setEntryMode em s).input = s.input := rfl
@[simp] theorem setEntryMode_results (em : EntryMode) : (setEntryMode em s).results = s.results := rfl

@[simp] theorem setDisplayControl_family (dc : DisplayControl) : (setDisplayControl dc s).family = s.family := rfl
@[simp] theorem setDisplayControl_addr (dc : DisplayControl) : (setDisplayControl dc s).addr = s.addr := rfl
@[simp] theorem setDisplayControl_rows (dc : DisplayControl) : (setDisplayControl dc s).rows = s.rows := rfl
@[simp] theorem setDisplayControl_params (dc : DisplayControl) : (setDisplayControl dc s).params = s.params := rfl
@[simp] theorem setDisplayControl_initialized (dc : DisplayControl) : (setDisplayControl dc s).initialized = s.initialized := rfl
@[simp] theorem setDisplayControl_fault (dc : DisplayControl) : (setDisplayControl dc s).fault = s.fault := rfl
@[simp] theorem setDisplayControl_backlight (dc : DisplayControl) : (setDisplayControl dc s).backlight = s.backlight := rfl
@[simp] theorem setDisplayControl_entryMode (dc : DisplayControl) : (setDisplayControl dc s).entryMode = s.entryMode := rfl
@[simp] theorem setDisplayControl_displayControl (dc : DisplayControl) : (setDisplayControl dc s).displayControl = some dc := rfl
@[simp] theorem setDisplayControl_functionSet (dc : DisplayControl) : (setDisplayControl dc s).functionSet = s.functionSet := rfl
@[simp] theorem setDisplayControl_oledRE (dc : DisplayControl) : (setDisplayControl dc s).oledRE = s.oledRE := rfl
@[simp] theorem setDisplayControl_oledSD (dc : DisplayControl) : (setDisplayControl dc s).oledSD = s.oledSD := rfl
@[simp] theorem setDisplayControl_trace (dc : DisplayControl) : (setDisplayControl dc s).trace = s.trace := rfl
@[simp] theorem setDisplayControl_input (dc : DisplayControl) : (setDisplayControl dc s).input = s.input := rfl
@[simp] theorem setDisplayControl_results (dc : DisplayControl) : (setDisplayControl dc s).results = s.results := rfl

@[simp] theorem setFunctionSet_family (fs : FunctionSet) : (setFunctionSet fs s).family = s.family := rfl
@[simp] theorem setFunctionSet_addr (fs : FunctionSet) : (setFunctionSet fs s).addr = s.addr := rfl
@[simp] theorem setFunctionSet_rows (fs : FunctionSet) : (setFunctionSet fs s).rows = s.rows := rfl
@[simp] theorem setFunctionSet_params (fs : FunctionSet) : (setFunctionSet fs s).params = s.params := rfl
@[simp] theorem setFunctionSet_initialized (fs : FunctionSet) : (setFunctionSet fs s).initialized = s.initialized := rfl
@[simp] theorem setFunctionSet_fault (fs : FunctionSet) : (setFunctionSet fs s).fault = s.fault := rfl
@[simp] theorem setFunctionSet_backlight (fs : FunctionSet) : (setFunctionSet fs s).backlight = s.backlight := rfl
@[simp] theorem setFunctionSet_entryMode (fs : FunctionSet) : (setFunctionSet fs s).entryMode = s.entryMode := rfl
@[simp] theorem setFunctionSet_displayControl (fs : FunctionSet) : (setFunctionSet fs s).displayControl = s.displayControl := rfl
@[simp] theorem setFunctionSet_functionSet (fs : FunctionSet) : (setFunctionSet fs s).functionSet = some fs := rfl
@[simp] theorem setFunctionSet_oledRE (fs : FunctionSet) : (setFunctionSet fs s).oledRE = s.oledRE := rfl
@[simp] theorem setFunctionSet_oledSD (fs : FunctionSet) : (setFunctionSet fs s).oledSD = s.oledSD := rfl
@[simp] theorem setFunctionSet_trace (fs : FunctionSet) : (setFunctionSet fs s).trace = s.trace := rfl
@[simp] theorem setFunctionSet_input (fs : FunctionSet) : (setFunctionSet fs s).input = s.input := rfl
@[simp] theorem setFunctionSet_results (fs : FunctionSet) : (setFunctionSet fs s).results = s.results := rfl

@[simp] theorem setToggle_family (t : Toggle) : (setToggle t s).family = s.family := rfl
@[simp] theorem setToggle_addr (t : Toggle) : (setToggle t s).addr = s.addr := rfl
@[simp] theorem setToggle_rows (t : Toggle) : (setToggle t s).rows = s.rows := rfl
@[simp] theorem setToggle_params (t : Toggle) : (setToggle t s).params = s.params := rfl
@[simp] theorem setToggle_initialized (t : Toggle) : (setToggle t s).initialized = s.initialized := rfl
@[simp] theorem setToggle_fault (t : Toggle) : (setToggle t s).fault = s.fault := rfl
@[simp] theorem setToggle_backlight (t : Toggle) : (setToggle t s).backlight = s.backlight := rfl
@[simp] theorem setToggle_entryMode (t : Toggle) : (setToggle t s).entryMode = s.entryMode := rfl
@[simp] theorem setToggle_displayControl (t : Toggle) : (setToggle t s).displayControl = s.displayControl := rfl
@[simp] theorem setToggle_functionSet (t : Toggle) : (setToggle t s).functionSet = s.functionSet := rfl
@[simp] theorem setToggle_oledRE (t : Toggle) : (setToggle t s).oledRE = t.1 := rfl
@[simp] theorem setToggle_oledSD (t : Toggle) : (setToggle t s).oledSD = t.2 := rfl
@[simp] theorem setToggle_trace (t : Toggle) : (setToggle t s).trace = s.trace := rfl
@[simp] theorem setToggle_input (t : Toggle) : (setToggle t s).input = s.input := rfl
@[simp] theorem setToggle_results (t : Toggle) : (setToggle t s).results = s.results := rfl

@[simp] theorem setInput_family (rest : List Byte) : (setInput rest s).family = s.family := rfl
@[simp] theorem setInput_addr (rest : List Byte) : (setInput rest s).addr = s.addr := rfl
@[simp] theorem setInput_rows (rest : List Byte) : (setInput rest s).rows = s.rows := rfl
@[simp] theorem setInput_params (rest : List Byte) : (setInput rest s).params = s.params := rfl
@[simp] theorem setInput_initialized (rest : List Byte) : (setInput rest s).initialized = s.initialized := rfl
@[simp] theorem setInput_fault (rest : List Byte) : (setInput rest s).fault = s.fault := rfl
@[simp] theorem setInput_backlight (rest : List Byte) : (setInput rest s).backlight = s.backlight := rfl
@[simp] theorem setInput_entryMode (rest : List Byte) : (setInput rest s).entryMode = s.entryMode := rfl
@[simp] theorem setInput_displayControl (rest : List Byte) : (setInput rest s).displayControl = s.displayControl := rfl
@[simp] theorem setInput_functionSet (rest : List Byte) : (setInput rest s).functionSet = s.functionSet := rfl
@[simp] theorem setInput_oledRE (rest : List Byte) : (setInput rest s).oledRE = s.oledRE := rfl
@[simp] theorem setInput_oledSD (rest : List Byte) : (setInput rest s).oledSD = s.oledSD := rfl
@[simp] theorem setInput_trace (rest : List Byte) : (setInput rest s).trace = s.trace := rfl
@[simp] theorem setInput_input (rest : List Byte) : (setInput rest s).input = rest := rfl
@[simp] theorem setInput_results (rest : List Byte) : (setInput rest s).results = s.results := rfl

@[simp] theorem complete_family (ret : Option Nat) : (complete ret s).family = s.family := rfl
@[simp] theorem complete_addr (ret : Option Nat) : (complete ret s).addr = s.addr := rfl
@[simp] theorem complete_rows (ret : Option Nat) : (complete ret s).rows = s.rows := rfl
@[simp] theorem complete_params (ret : Option Nat) : (complete ret s).params = s.params := rfl
@[simp] theorem complete_initialized (ret : Option Nat) : (complete ret s).initialized = s.initialized := rfl
@[simp] theorem complete_fault (ret : Option Nat) : (complete ret s).fault = s.fault := rfl
@[simp] theorem complete_backlight (ret : Option Nat) : (complete ret s).backlight = s.backlight := rfl
@[simp] theorem complete_entryMode (ret : Option Nat) : (complete ret s).entryMode = s.entryMode := rfl
@[simp] theorem complete_displayControl (ret : Option Nat) : (complete ret s).displayControl = s.displayControl := rfl
@[simp] theorem complete_functionSet (ret : Option Nat) : (complete ret s).functionSet = s.functionSet := rfl
@[simp] theorem complete_oledRE (ret : Option Nat) : (complete ret s).oledRE = s.oledRE := rfl
@[simp] theorem complete_oledSD (ret : Option Nat) : (complete ret s).oledSD = s.oledSD := rfl
@[simp] theorem complete_trace (ret : Option Nat) : (complete ret s).trace = s.trace := rfl
@[simp] theorem complete_input (ret : Option Nat) : (complete ret s).input = s.input := rfl
@[simp] theorem complete_results (ret : Option Nat) : (complete ret s).results = s.results ++ [.ok ret] := rfl

@[simp] theorem raiseFault_family (r : FaultReason) : (raiseFault r s).family = s.family := rfl
@[simp] theorem raiseFault_addr (r : FaultReason) : (raiseFault r s).addr = s.addr := rfl
@[simp] theorem raiseFault_rows (r : FaultReason) : (raiseFault r s).rows = s.rows := rfl
@[simp] theorem raiseFault_params (r : FaultReason) : (raiseFault r s).params = s.params := rfl
@[simp] theorem raiseFault_initialized (r : FaultReason) : (raiseFault r s).initialized = s.initialized := rfl
@[simp] theorem raiseFault_fault (r : FaultReason) : (raiseFault r s).fault = some r := rfl
@[simp] theorem raiseFault_backlight (r : FaultReason) : (raiseFault r s).backlight = s.backlight := rfl
@[simp] theorem raiseFault_entryMode (r : FaultReason) : (raiseFault r s).entryMode = s.entryMode := rfl
@[simp] theorem raiseFault_displayControl (r : FaultReason) : (raiseFault r s).displayControl = s.displayControl := rfl
@[simp] theorem raiseFault_functionSet (r : FaultReason) : (raiseFault r s).functionSet = s.functionSet := rfl
@[simp] theorem raiseFault_oledRE (r : FaultReason) : (raiseFault r s).oledRE = s.oledRE := rfl
@[simp] theorem raiseFault_oledSD (r : FaultReason) : (raiseFault r s).oledSD = s.oledSD := rfl
@[simp] theorem raiseFault_trace (r : FaultReason) : (raiseFault r s).trace = s.trace := rfl
@[simp] theorem raiseFault_input (r : FaultReason) : (raiseFault r s).input = s.input := rfl
@[simp] theorem raiseFault_results (r : FaultReason) : (raiseFault r s).results = s.results ++ [.faulted r] := rfl

@[simp] theorem emitWait_eq (t : Nat) : emitWait t s = emit [.wait t] s := rfl

@[simp] theorem toggleOf_setToggle (t : Toggle) : toggleOf (setToggle t s) = t := rfl

@[simp] theorem toggleOf_emit (es : List Event) : toggleOf (emit es s) = toggleOf s := rfl

/-- Emitting twice is emitting the two lists in order (00_scope.md R11). -/
@[simp] theorem emit_emit (es es' : List Event) : emit es' (emit es s) = emit (es ++ es') s := by
  simp [emit, List.append_assoc]

@[simp] theorem emit_nil : emit [] s = s := by simp [emit]

@[simp] theorem setToggle_toggleOf : setToggle (toggleOf s) s = s := rfl

@[simp] theorem setToggle_setToggle (t t' : Toggle) : setToggle t' (setToggle t s) = setToggle t' s := rfl

/-! Writing a field and emitting commute: emissions are moved outwards. -/

@[simp] theorem setInitialized_emit (es : List Event) : setInitialized (emit es s) = emit es (setInitialized s) := rfl
@[simp] theorem setBacklight_emit (b : Bool) (es : List Event) : setBacklight b (emit es s) = emit es (setBacklight b s) := rfl
@[simp] theorem setEntryMode_emit (em : EntryMode) (es : List Event) : setEntryMode em (emit es s) = emit es (setEntryMode em s) := rfl
@[simp] theorem setDisplayControl_emit (dc : DisplayControl) (es : List Event) : setDisplayControl dc (emit es s) = emit es (setDisplayControl dc s) := rfl
@[simp] theorem setFunctionSet_emit (fs : FunctionSet) (es : List Event) : setFunctionSet fs (emit es s) = emit es (setFunctionSet fs s) := rfl
@[simp] theorem setToggle_emit (t : Toggle) (es : List Event) : setToggle t (emit es s) = emit es (setToggle t s) := rfl

end Sys2Proof.Machine
end

