-- ==== Sys2Proof/Laws/Events.lean ====
section
/-! SUPPORT. The events of a byte depend on the family, the address, the parameters and the backlight only: no update
of another field moves them. One lemma per event list per update, true by rfl. -/

namespace Sys2Proof.Machine

variable (s : State)

@[simp] theorem lcdStrobeEvents_emit (es : List Event) : lcdStrobeEvents (emit es s) = lcdStrobeEvents s := rfl
@[simp] theorem lcdStrobeEvents_setInitialized : lcdStrobeEvents (setInitialized s) = lcdStrobeEvents s := rfl
@[simp] theorem lcdStrobeEvents_setEntryMode (em : EntryMode) : lcdStrobeEvents (setEntryMode em s) = lcdStrobeEvents s := rfl
@[simp] theorem lcdStrobeEvents_setDisplayControl (dc : DisplayControl) : lcdStrobeEvents (setDisplayControl dc s) = lcdStrobeEvents s := rfl
@[simp] theorem lcdStrobeEvents_setFunctionSet (fs : FunctionSet) : lcdStrobeEvents (setFunctionSet fs s) = lcdStrobeEvents s := rfl
@[simp] theorem lcdStrobeEvents_setToggle (t : Toggle) : lcdStrobeEvents (setToggle t s) = lcdStrobeEvents s := rfl
@[simp] theorem lcdStrobeEvents_setInput (rest : List Byte) : lcdStrobeEvents (setInput rest s) = lcdStrobeEvents s := rfl
@[simp] theorem lcdStrobeEvents_complete (ret : Option Nat) : lcdStrobeEvents (complete ret s) = lcdStrobeEvents s := rfl
@[simp] theorem lcdStrobeEvents_raiseFault (r : FaultReason) : lcdStrobeEvents (raiseFault r s) = lcdStrobeEvents s := rfl

@[simp] theorem lcdSendEvents_emit (es : List Event) : lcdSendEvents (emit es s) = lcdSendEvents s := rfl
@[simp] theorem lcdSendEvents_setInitialized : lcdSendEvents (setInitialized s) = lcdSendEvents s := rfl
@[simp] theorem lcdSendEvents_setEntryMode (em : EntryMode) : lcdSendEvents (setEntryMode em s) = lcdSendEvents s := rfl
@[simp] theorem lcdSendEvents_setDisplayControl (dc : DisplayControl) : lcdSendEvents (setDisplayControl dc s) = lcdSendEvents s := rfl
@[simp] theorem lcdSendEvents_setFunctionSet (fs : FunctionSet) : lcdSendEvents (setFunctionSet fs s) = lcdSendEvents s := rfl
@[simp] theorem lcdSendEvents_setToggle (t : Toggle) : lcdSendEvents (setToggle t s) = lcdSendEvents s := rfl
@[simp] theorem lcdSendEvents_setInput (rest : List Byte) : lcdSendEvents (setInput rest s) = lcdSendEvents s := rfl
@[simp] theorem lcdSendEvents_complete (ret : Option Nat) : lcdSendEvents (complete ret s) = lcdSendEvents s := rfl
@[simp] theorem lcdSendEvents_raiseFault (r : FaultReason) : lcdSendEvents (raiseFault r s) = lcdSendEvents s := rfl

@[simp] theorem oledCommandEvents_emit (es : List Event) : oledCommandEvents (emit es s) = oledCommandEvents s := rfl
@[simp] theorem oledCommandEvents_setInitialized : oledCommandEvents (setInitialized s) = oledCommandEvents s := rfl
@[simp] theorem oledCommandEvents_setEntryMode (em : EntryMode) : oledCommandEvents (setEntryMode em s) = oledCommandEvents s := rfl
@[simp] theorem oledCommandEvents_setDisplayControl (dc : DisplayControl) : oledCommandEvents (setDisplayControl dc s) = oledCommandEvents s := rfl
@[simp] theorem oledCommandEvents_setFunctionSet (fs : FunctionSet) : oledCommandEvents (setFunctionSet fs s) = oledCommandEvents s := rfl
@[simp] theorem oledCommandEvents_setToggle (t : Toggle) : oledCommandEvents (setToggle t s) = oledCommandEvents s := rfl
@[simp] theorem oledCommandEvents_setInput (rest : List Byte) : oledCommandEvents (setInput rest s) = oledCommandEvents s := rfl
@[simp] theorem oledCommandEvents_complete (ret : Option Nat) : oledCommandEvents (complete ret s) = oledCommandEvents s := rfl
@[simp] theorem oledCommandEvents_raiseFault (r : FaultReason) : oledCommandEvents (raiseFault r s) = oledCommandEvents s := rfl

@[simp] theorem oledDataEvents_emit (es : List Event) : oledDataEvents (emit es s) = oledDataEvents s := rfl
@[simp] theorem oledDataEvents_setInitialized : oledDataEvents (setInitialized s) = oledDataEvents s := rfl
@[simp] theorem oledDataEvents_setEntryMode (em : EntryMode) : oledDataEvents (setEntryMode em s) = oledDataEvents s := rfl
@[simp] theorem oledDataEvents_setDisplayControl (dc : DisplayControl) : oledDataEvents (setDisplayControl dc s) = oledDataEvents s := rfl
@[simp] theorem oledDataEvents_setFunctionSet (fs : FunctionSet) : oledDataEvents (setFunctionSet fs s) = oledDataEvents s := rfl
@[simp] theorem oledDataEvents_setToggle (t : Toggle) : oledDataEvents (setToggle t s) = oledDataEvents s := rfl
@[simp] theorem oledDataEvents_setInput (rest : List Byte) : oledDataEvents (setInput rest s) = oledDataEvents s := rfl
@[simp] theorem oledDataEvents_complete (ret : Option Nat) : oledDataEvents (complete ret s) = oledDataEvents s := rfl
@[simp] theorem oledDataEvents_raiseFault (r : FaultReason) : oledDataEvents (raiseFault r s) = oledDataEvents s := rfl

@[simp] theorem commandEvents_emit (es : List Event) : commandEvents (emit es s) = commandEvents s := rfl
@[simp] theorem commandEvents_setInitialized : commandEvents (setInitialized s) = commandEvents s := rfl
@[simp] theorem commandEvents_setEntryMode (em : EntryMode) : commandEvents (setEntryMode em s) = commandEvents s := rfl
@[simp] theorem commandEvents_setDisplayControl (dc : DisplayControl) : commandEvents (setDisplayControl dc s) = commandEvents s := rfl
@[simp] theorem commandEvents_setFunctionSet (fs : FunctionSet) : commandEvents (setFunctionSet fs s) = commandEvents s := rfl
@[simp] theorem commandEvents_setToggle (t : Toggle) : commandEvents (setToggle t s) = commandEvents s := rfl
@[simp] theorem commandEvents_setInput (rest : List Byte) : commandEvents (setInput rest s) = commandEvents s := rfl
@[simp] theorem commandEvents_complete (ret : Option Nat) : commandEvents (complete ret s) = commandEvents s := rfl
@[simp] theorem commandEvents_raiseFault (r : FaultReason) : commandEvents (raiseFault r s) = commandEvents s := rfl

@[simp] theorem dataEvents_emit (es : List Event) : dataEvents (emit es s) = dataEvents s := rfl
@[simp] theorem dataEvents_setInitialized : dataEvents (setInitialized s) = dataEvents s := rfl
@[simp] theorem dataEvents_setEntryMode (em : EntryMode) : dataEvents (setEntryMode em s) = dataEvents s := rfl
@[simp] theorem dataEvents_setDisplayControl (dc : DisplayControl) : dataEvents (setDisplayControl dc s) = dataEvents s := rfl
@[simp] theorem dataEvents_setFunctionSet (fs : FunctionSet) : dataEvents (setFunctionSet fs s) = dataEvents s := rfl
@[simp] theorem dataEvents_setToggle (t : Toggle) : dataEvents (setToggle t s) = dataEvents s := rfl
@[simp] theorem dataEvents_setInput (rest : List Byte) : dataEvents (setInput rest s) = dataEvents s := rfl
@[simp] theorem dataEvents_complete (ret : Option Nat) : dataEvents (complete ret s) = dataEvents s := rfl
@[simp] theorem dataEvents_raiseFault (r : FaultReason) : dataEvents (raiseFault r s) = dataEvents s := rfl

@[simp] theorem entryEvents_emit (es : List Event) : entryEvents (emit es s) = entryEvents s := rfl
@[simp] theorem entryEvents_setInitialized : entryEvents (setInitialized s) = entryEvents s := rfl
@[simp] theorem entryEvents_setEntryMode (em : EntryMode) : entryEvents (setEntryMode em s) = entryEvents s := rfl
@[simp] theorem entryEvents_setDisplayControl (dc : DisplayControl) : entryEvents (setDisplayControl dc s) = entryEvents s := rfl
@[simp] theorem entryEvents_setFunctionSet (fs : FunctionSet) : entryEvents (setFunctionSet fs s) = entryEvents s := rfl
@[simp] theorem entryEvents_setToggle (t : Toggle) : entryEvents (setToggle t s) = entryEvents s := rfl
@[simp] theorem entryEvents_setInput (rest : List Byte) : entryEvents (setInput rest s) = entryEvents s := rfl
@[simp] theorem entryEvents_complete (ret : Option Nat) : entryEvents (complete ret s) = entryEvents s := rfl
@[simp] theorem entryEvents_raiseFault (r : FaultReason) : entryEvents (raiseFault r s) = entryEvents s := rfl

end Sys2Proof.Machine
end

