-- ==== Sys2Proof/Laws/Ops.lean ====
section
/-! SUPPORT. One lemma per shared operation that says what it does: the sends and the sequences as one emission,
and what is so when a request answers a next state. -/

namespace Sys2Proof.Machine

/-- `sendCommand` emits the events of one command and changes nothing else (40_command_surface.md R114). -/
theorem sendCommand_eq (c : Byte) (s : State) : sendCommand c s = emit (commandEvents s c) s := by
  unfold sendCommand commandEvents
  cases s.family <;> rfl

/-- `sendData` emits the events of one data byte and changes nothing else (40_command_surface.md R114). -/
theorem sendData_eq (d : Byte) (s : State) : sendData d s = emit (dataEvents s d) s := by
  unfold sendData dataEvents
  cases s.family <;> rfl

/-- Sending a list of data bytes emits them in order (20_memory.md R53). -/
theorem sendDataAll_eq (ds : List Byte) (s : State) : sendDataAll ds s = emit (ds.flatMap (dataEvents s)) s := by
  induction ds generalizing s with
  | nil => simp [sendDataAll]
  | cons d ds ih =>
    simp [sendDataAll, sendData_eq, ih]

/-- Sending an entry emits its events and changes nothing else (42_oled_backend.md R194). -/
theorem oledSendEntry_eq (e : SeqEntry) (s : State) : oledSendEntry e s = emit (entryEvents s e) s := by
  cases e <;> rfl

/-- Sending a sequence emits every entry in order and replays its tags (42_oled_backend.md R195, R196). -/
theorem oledSendSeq_eq (q : List SeqEntry) (s : State) :
    oledSendSeq q s = emit (q.flatMap (entryEvents s)) (setToggle (replayTags (toggleOf s) q) s) := by
  induction q generalizing s with
  | nil => simp [oledSendSeq, replayTags]
  | cons e q ih =>
    simp [oledSendSeq, updateToggle, oledSendEntry_eq, ih, replayTags]

/-- The bits known on the side of `u` are the same on the side of `t`. -/
def AgreesWith (u t : Toggle) : Prop :=
  (∀ b, u.1 = some b → t.1 = some b) ∧ (∀ b, u.2 = some b → t.2 = some b)

/-- One entry keeps agreement (42_oled_backend.md R195). -/
theorem applyEntry_agrees {u t : Toggle} (h : AgreesWith u t) (e : SeqEntry) :
    AgreesWith (applyEntry u e) (applyEntry t e) :=
  match e with
  | .cmd _ .re1 | .cmd _ .re0 => ⟨fun _ hb => hb, h.2⟩
  | .cmd _ .sd1 | .cmd _ .sd0 => ⟨h.1, fun _ hb => hb⟩
  | .cmd _ .keep | .dat _ => h

/-- A replay keeps agreement. -/
theorem replayTags_agrees (q : List SeqEntry) {u t : Toggle} (h : AgreesWith u t) :
    AgreesWith (replayTags u q) (replayTags t q) := by
  induction q generalizing u t with
  | nil => exact h
  | cons e q ih => exact ih (applyEntry_agrees h e)

/-- A sequence that settles both bits from the unknown toggle settles them the same from every toggle
(42_oled_backend.md R197, R207 check 2). -/
theorem replayTags_settled {q : List SeqEntry} {a b : Bool}
    (h : replayTags (none, none) q = (some a, some b)) (t : Toggle) : replayTags t q = (some a, some b) := by
  have h0 : AgreesWith (none, none) t := ⟨fun _ hb => by simp at hb, fun _ hb => by simp at hb⟩
  have hq := replayTags_agrees q h0
  rw [h] at hq
  exact Prod.ext (hq.1 a rfl) (hq.2 b rfl)

/-- `clearBody` emits the clear command and then its wait (40_command_surface.md R111). -/
theorem clearBody_eq (s : State) :
    clearBody s = emit (commandEvents s s.params.cmd.clear ++ [.wait s.params.timing.tClear]) s := by
  simp [clearBody, sendCommand_eq, cmdClear]

/-- `moveBody` emits one set-DDRAM command (40_command_surface.md R113). -/
theorem moveBody_eq (row col : Nat) (s : State) :
    moveBody row col s =
      emit (commandEvents s (cmdSetDdram s.params.cmd (ddramAddr s.params.rowOffset s.rows row col))) s :=
  sendCommand_eq _ _

/-- Row 0 is never clamped (40_command_surface.md R113). -/
@[simp] theorem clampRow_zero (rows : Rows) : clampRow rows 0 = 0 := by simp [clampRow]

/-- `homeBody` emits the set-DDRAM command of row 0's base (40_command_surface.md R112). -/
theorem homeBody_eq (s : State) :
    homeBody s = emit (commandEvents s (cmdSetDdram s.params.cmd s.params.rowOffset.row0.toNat)) s := by
  simp [homeBody, moveBody_eq, ddramAddr, rowOffsetAt]

/-- Recording the function set writes the shadow and emits its byte (41_lcd_backend.md R175). -/
theorem recordFunctionSet_eq (fs : FunctionSet) (s : State) :
    recordFunctionSet fs s = emit (commandEvents s (cmdFunction s.params.cmd fs)) (setFunctionSet fs s) := by
  simp [recordFunctionSet, sendCommand_eq]

/-- Recording the display control writes the shadow and emits its byte (40_command_surface.md R115). -/
theorem recordDisplayControl_eq (dc : DisplayControl) (s : State) :
    recordDisplayControl dc s = emit (commandEvents s (cmdDisplay s.params.cmd dc)) (setDisplayControl dc s) := by
  simp [recordDisplayControl, sendCommand_eq]

/-- Recording the entry mode writes the shadow and emits its byte (40_command_surface.md R115). -/
theorem recordEntryMode_eq (em : EntryMode) (s : State) :
    recordEntryMode em s = emit (commandEvents s (cmdEntry s.params.cmd em)) (setEntryMode em s) := by
  simp [recordEntryMode, sendCommand_eq]

/-- Recording the three shadows writes them and emits their bytes in order (41_lcd_backend.md R175). -/
theorem sendShadows_eq (s : State) :
    sendShadows s =
      emit (commandEvents s (cmdFunction s.params.cmd (initFunctionSet s.rows)) ++
        commandEvents s (cmdDisplay s.params.cmd initDisplayControl) ++
        commandEvents s (cmdEntry s.params.cmd initEntryMode)) (storeShadows s) := by
  simp [sendShadows, storeShadows, recordEntryMode_eq, recordDisplayControl_eq, recordFunctionSet_eq]

/-- A display read-modify-write answers a next state only from a defined shadow, and then the changed shadow is
recorded (40_command_surface.md R115; 10_state.md R32). -/
theorem rmwDisplayControl_next {change : DisplayControl → DisplayControl} {s t : State}
    (h : rmwDisplayControl change s = .next t) :
    ∃ dc, s.displayControl = some dc ∧ t = complete none (recordDisplayControl (change dc) s) := by
  unfold rmwDisplayControl at h
  split at h
  · rename_i dc hd
    cases h
    exact ⟨dc, hd, rfl⟩
  · cases h

/-- An entry-mode read-modify-write answers a next state only from a defined shadow, and then the changed shadow is
recorded (40_command_surface.md R115; 10_state.md R32). -/
theorem rmwEntryMode_next {change : EntryMode → EntryMode} {s t : State} (h : rmwEntryMode change s = .next t) :
    ∃ em, s.entryMode = some em ∧ t = complete none (recordEntryMode (change em) s) := by
  unfold rmwEntryMode at h
  split at h
  · rename_i em he
    cases h
    exact ⟨em, he, rfl⟩
  · cases h

/-- What is so when a request answers a next state: the block was not halted, and either the guard raised the fault
the state shows or the request's own body ran (60_exceptions.md R220, R221). -/
theorem runRequest_next {req : Instr} {body : State → StepOutcome} {s t : State}
    (h : runRequest req body s = .next t) :
    s.fault = none ∧
      ((∃ r, requestGuard req s = some r ∧ t = raiseFault r s) ∨ (requestGuard req s = none ∧ body s = .next t)) := by
  unfold runRequest at h
  split at h
  · cases h
  · rename_i hf
    split at h
    · rename_i r hg
      cases h
      exact ⟨hf, .inl ⟨r, hg, rfl⟩⟩
    · rename_i hg
      exact ⟨hf, .inr ⟨hg, h⟩⟩

/-- A request runs its body when the block is not halted and the guard passes. -/
theorem runRequest_of_guard {req : Instr} {body : State → StepOutcome} {s : State} (hf : s.fault = none)
    (hg : requestGuard req s = none) : runRequest req body s = body s := by
  simp [runRequest, hf, hg]

end Sys2Proof.Machine
end

