-- ==== Sys2Proof/Laws/PerInstr.lean ====
section
/-! SUPPORT. What is so of the encoding of every request, one lemma per request (30_encoding.md R70, R71). -/

namespace Sys2Proof.Laws.EncodingShape

/-- A request's bytes begin with a listed opcode, and their number is the length its opcode alone fixes, between 1
and 10 (30_encoding.md R70, R71). -/
def Statement (i : Instr) : Prop :=
  ∃ op args f, encode i = op :: args ∧ opcodeFormat op = some f ∧ (encode i).length = formatLength f ∧
    (encode i).length ≤ maxRequestLength

theorem init : Statement .init := ⟨_, _, .n, rfl, rfl, rfl, by decide⟩
theorem clear : Statement .clear := ⟨_, _, .n, rfl, rfl, rfl, by decide⟩
theorem home : Statement .home := ⟨_, _, .n, rfl, rfl, rfl, by decide⟩
theorem move (row col : Byte) : Statement (.move row col) := ⟨_, _, .rc, rfl, rfl, rfl, by simp [encode, maxRequestLength]⟩
theorem dispoff : Statement .dispoff := ⟨_, _, .n, rfl, rfl, rfl, by decide⟩
theorem dispon : Statement .dispon := ⟨_, _, .n, rfl, rfl, rfl, by decide⟩
theorem cursoroff : Statement .cursoroff := ⟨_, _, .n, rfl, rfl, rfl, by decide⟩
theorem cursoron : Statement .cursoron := ⟨_, _, .n, rfl, rfl, rfl, by decide⟩
theorem blinkoff : Statement .blinkoff := ⟨_, _, .n, rfl, rfl, rfl, by decide⟩
theorem blinkon : Statement .blinkon := ⟨_, _, .n, rfl, rfl, rfl, by decide⟩
theorem shcurl : Statement .shcurl := ⟨_, _, .n, rfl, rfl, rfl, by decide⟩
theorem shcurr : Statement .shcurr := ⟨_, _, .n, rfl, rfl, rfl, by decide⟩
theorem shdispl : Statement .shdispl := ⟨_, _, .n, rfl, rfl, rfl, by decide⟩
theorem shdispr : Statement .shdispr := ⟨_, _, .n, rfl, rfl, rfl, by decide⟩
theorem textrtl : Statement .textrtl := ⟨_, _, .n, rfl, rfl, rfl, by decide⟩
theorem textltr : Statement .textltr := ⟨_, _, .n, rfl, rfl, rfl, by decide⟩
theorem autoshiftoff : Statement .autoshiftoff := ⟨_, _, .n, rfl, rfl, rfl, by decide⟩
theorem autoshifton : Statement .autoshifton := ⟨_, _, .n, rfl, rfl, rfl, by decide⟩
theorem backlightoff : Statement .backlightoff := ⟨_, _, .n, rfl, rfl, rfl, by decide⟩
theorem backlighton : Statement .backlighton := ⟨_, _, .n, rfl, rfl, rfl, by decide⟩
theorem bright (v : Byte) : Statement (.bright v) := ⟨_, _, .b, rfl, rfl, rfl, by simp [encode, maxRequestLength]⟩
theorem glyph (idx m0 m1 m2 m3 m4 m5 m6 m7 : Byte) : Statement (.glyph idx m0 m1 m2 m3 m4 m5 m6 m7) :=
  ⟨_, _, .g, rfl, rfl, rfl, by simp [encode, maxRequestLength]⟩
theorem write (v : Byte) : Statement (.write v) := ⟨_, _, .b, rfl, rfl, rfl, by simp [encode, maxRequestLength]⟩

end Sys2Proof.Laws.EncodingShape
end

