-- ==== Sys2Proof/Tests/Slice0.lean ====
section
/-! SUPPORT. Tests with expected results from 95_test_vectors.md and the rules' examples, the smoke tests of every
well-formedness check, and a witness for the hypotheses of every statement. -/

namespace Sys2Proof.Tests

open Sys2Proof.Machine

/-! ## Helpers -/

/-- An LCD handle at 0x27 with 2 rows (95_test_vectors.md notation). -/
def lcdNew : State := State.construct defaultParams .lcd 0x27 .two

/-- An OLED handle at 0x3C with 2 rows. -/
def oledNew : State := State.construct defaultParams .oled 0x3C .two

/-- A handle with the shadows of INIT (70_reset_and_hazards.md R251) and an empty trace. -/
def initialised (s : State) : State :=
  { s with
    initialized := true, entryMode := some initEntryMode, displayControl := some initDisplayControl
    functionSet := some (initFunctionSet s.rows) }

/-- The LCD handle "after INIT", its trace left out. -/
def lcd : State := initialised lcdNew

/-- The OLED handle "after INIT", its trace left out. -/
def oled : State := setToggle (some false, some false) (initialised oledNew)

/-- The events of an outcome on a handle with an empty trace. -/
def events : StepOutcome → List Event
  | .next t => t.trace
  | .fault _ | .refused _ => []

/-- The last result of an outcome. -/
def result : StepOutcome → Option Result
  | .next t => t.results.getLast?
  | .fault _ | .refused _ => none

/-- A field of an outcome's next state. -/
def field {α : Type} (f : State → Option α) : StepOutcome → Option α
  | .next t => f t
  | .fault _ | .refused _ => none

/-- `T[b]` on LCD. -/
def tx (b : Byte) : Event := .txn 0x27 [b]

/-- One strobe `T[a] T[b] W1 T[a] W1`. -/
def st (a b : Byte) : List Event := [tx a, tx b, .wait 1, tx a, .wait 1]

/-- `T[80,c] W10000` on OLED. -/
def oc (c : Byte) : List Event := [.txn 0x3C [0x80, c], .wait 10000]

/-- `T[40,d]` on OLED. -/
def od (d : Byte) : List Event := [.txn 0x3C [0x40, d]]

/-! ## Decoding (95_test_vectors.md 2.1) and the words of 30_encoding.md R73 -/

theorem test_decode_init : decode [0x01] = .request .init [] := by decide
theorem test_decode_clear : decode [0x02, 0x09] = .request .clear [0x09] := by decide
theorem test_decode_home : decode [0x03] = .request .home [] := by decide
theorem test_decode_move : decode [0x04, 0x03, 0x05] = .request (.move 3 5) [] := by decide
theorem test_decode_move_large : decode [0x04, 0x07, 0xFF] = .request (.move 7 255) [] := by decide
theorem test_decode_dispoff : decode [0x10] = .request .dispoff [] := by decide
theorem test_decode_dispon : decode [0x11] = .request .dispon [] := by decide
theorem test_decode_cursoroff : decode [0x12] = .request .cursoroff [] := by decide
theorem test_decode_cursoron : decode [0x13] = .request .cursoron [] := by decide
theorem test_decode_blinkoff : decode [0x14] = .request .blinkoff [] := by decide
theorem test_decode_blinkon : decode [0x15] = .request .blinkon [] := by decide
theorem test_decode_shcurl : decode [0x20] = .request .shcurl [] := by decide
theorem test_decode_shcurr : decode [0x21] = .request .shcurr [] := by decide
theorem test_decode_shdispl : decode [0x22] = .request .shdispl [] := by decide
theorem test_decode_shdispr : decode [0x23] = .request .shdispr [] := by decide
theorem test_decode_textrtl : decode [0x30] = .request .textrtl [] := by decide
theorem test_decode_textltr : decode [0x31] = .request .textltr [] := by decide
theorem test_decode_autoshiftoff : decode [0x32] = .request .autoshiftoff [] := by decide
theorem test_decode_autoshifton : decode [0x33] = .request .autoshifton [] := by decide
theorem test_decode_backlightoff : decode [0x40] = .request .backlightoff [] := by decide
theorem test_decode_backlighton : decode [0x41] = .request .backlighton [] := by decide
theorem test_decode_bright : decode [0x50, 0x40] = .request (.bright 0x40) [] := by decide
theorem test_decode_glyph :
    decode [0x60, 0x02, 0x0E, 0x11, 0x11, 0x11, 0x1F, 0x1B, 0x1B, 0x1F] =
      .request (.glyph 2 0x0E 0x11 0x11 0x11 0x1F 0x1B 0x1B 0x1F) [] := by decide
theorem test_decode_write : decode [0x70, 0x41] = .request (.write 0x41) [] := by decide

/-- V-DEC-7 to V-DEC-9. -/
theorem test_decode_illegal :
    [0x00, 0xFF, 0x05, 0x16, 0x24, 0x34, 0x42, 0x51, 0x61, 0x71].all
      (fun b : Byte => decode [b] == .illegal b []) = true := by decide

/-- V-DEC-10 to V-DEC-12, and the empty string of R77. -/
theorem test_decode_truncated :
    decode [0x04, 0x01] = .truncated 0x04 ∧ decode [0x70] = .truncated 0x70 ∧
    decode [0x60, 0x02, 0x0E] = .truncated 0x60 ∧ decode [] = .empty := by decide

/-- The table's words: byte 0 in bits 7..0, operands above. -/
theorem test_table_words :
    decodeTableWord 8 0x01 = some .init ∧ decodeTableWord 24 0x050304 = some (.move 3 5) ∧
    decodeTableWord 8 0x70 = some (.write 0) ∧ decodeTableWord 16 0x4170 = some (.write 0x41) ∧
    decodeTableWord 8 0x00 = none := by decide +kernel

/-- A placed word is run by the very next step, from reset too. -/
theorem test_placed_word :
    events (step (lcd.withFetchWord 16 0x4170)) = st 0x49 0x4D ++ st 0x19 0x1D ∧
    result (step (State.reset.withFetchWord 8 0x01)) = some (.ok none) ∧
    field (fun t => some t.input) (step (State.reset.withFetchWord 8 0x01)) = some [] := by decide +kernel

/-! ## The assembler (30_encoding.md R78) -/

theorem test_assemble_examples :
    assembleLine ("INIT".toList) = some [.init] ∧ assembleLine ("MOVE 1, 5".toList) = some [.move 1 5] ∧
    assembleLine ("WRITE 'A'".toList) = some [.write 0x41] ∧
    assembleLine ("BRIGHT 0x80".toList) = some [.bright 0x80] := by decide +kernel

theorem test_assemble_glyph :
    assembleLine ("GLYPH 2, [0x0E, 0x11, 0x11, 0x11, 0x1F, 0x1B, 0x1B, 0x1F]".toList) =
      some [.glyph 2 0x0E 0x11 0x11 0x11 0x1F 0x1B 0x1B 0x1F] ∧
    assembleLine ("GLYPH 2, [0x0E]".toList) = none := by decide +kernel

theorem test_assemble_pseudo :
    assembleLine ("TEXTDIR false".toList) = some [.textrtl] ∧
    assembleLine ("AUTOSHIFT true".toList) = some [.autoshifton] ∧
    assembleLine ("BACKLIGHT 1".toList) = some [.backlighton] ∧
    assembleLine ("PRINT \"Hi,\"".toList) = some [.write 0x48, .write 0x69, .write 0x2C] ∧
    assembleLine ("WRITE ','".toList) = some [.write 0x2C] ∧ assembleLine ("NOP".toList) = none ∧
    assembleLine ("WRITE 256".toList) = none := by decide +kernel

/-! ## Well-formedness: each check refuses an ill-formed term -/

theorem test_defaults_wf : defaultParams.wf = true := by decide +kernel
theorem test_cmd_overlap_refused : cmdCheck { defaultCmd with dctlC := 0x04 } = false := by decide
theorem test_cmd_literal_refused : cmdSyncLiteral { defaultCmd with fsetDl := 0x40 } = false := by decide
theorem test_cmd_low_nibble_refused : cmdLowNibblesZero { defaultCmd with fset := 0x21 } = false := by decide
theorem test_pin_twice_refused : pinCheck { defaultPin with bl := 2 } = false := by decide
theorem test_pin_range_refused : pinCheck { defaultPin with rwLine := 8 } = false := by decide
theorem test_oled_mode_refused : oledModeCheck { defaultOledMode with cmdMode := 0x40 } = false := by decide
/-- R207 check 1. -/
theorem test_init_seq_rows_refused :
    initSeqRowsCheck { defaultOledInitSeq with rows2 := defaultInitSeqAt .three } = false := by decide
/-- R207 check 2: RE left at 1; SD toggled with RE = 0. -/
theorem test_toggle_refused :
    toggleCheck [.cmd 0x2A .re1, .cmd 0x78 .sd0] = false ∧
    toggleCheck [.cmd 0x28 .re0, .cmd 0x78 .sd0] = false ∧
    toggleCheck [.cmd 0x2A .re1, .cmd 0x78 .sd0, .cmd 0x28 .re0] = true := by decide
/-- R207 check 3: the last entry; the clear before it. -/
theorem test_init_seq_end_refused :
    initSeqEndCheck defaultCmd defaultRowOffset [.cmd 0x01 .keep, .cmd 0xC0 .keep] = false ∧
    initSeqEndCheck defaultCmd defaultRowOffset [.cmd 0x80 .keep] = false ∧
    initSeqEndCheck defaultCmd defaultRowOffset [.cmd 0x01 .keep, .cmd 0x80 .keep] = true := by decide
/-- R207 check 4: five entries; a data entry; the value twice; the value nowhere. -/
theorem test_bright_seq_refused :
    oledBrightSeqCheck (defaultOledBrightSeq.drop 1) = false ∧
    oledBrightSeqCheck (defaultOledBrightSeq.set 2 (.fixed (.dat 0x81))) = false ∧
    oledBrightSeqCheck (defaultOledBrightSeq.set 2 .value) = false ∧
    oledBrightSeqCheck (defaultOledBrightSeq.set 3 (.fixed (.cmd 0x40 .keep))) = false ∧
    oledBrightSeqCheck defaultOledBrightSeq = true := by decide
/-- Ill-formed parameters build no handle, nor do `ROWS` 0 and 5 or `ADDR` 128 (10_state.md R23). -/
theorem test_construct_refused :
    constructHandle { defaultParams with pin := { defaultPin with bl := 2 } } .lcd 0x27 2 = none ∧
    constructHandle defaultParams .lcd 0x27 0 = none ∧ constructHandle defaultParams .lcd 0x27 5 = none ∧
    constructHandle defaultParams .oled 128 1 = none ∧
    constructHandle defaultParams .oled 127 4 = some (State.construct defaultParams .oled 127 .four) := by
  decide +kernel

/-! ## Byte builders (95_test_vectors.md 2.2, 2.3, 2.5) -/

theorem test_lcd_byte :
    lcdByte defaultPin 0x0 false true true = 0x0C ∧ lcdByte defaultPin 0x3 false false true = 0x38 ∧
    lcdByte defaultPin 0x4 true true true = 0x4D ∧ lcdByte defaultPin 0xF true true false = 0xF5 := by decide

/-- V-MOVE-3, V-MOVE-6, V-MOVE-7, V-MOVE-8, V-MOVE-9, V-MOVE-13. -/
theorem test_move_bytes :
    let byte (rows : Rows) (row col : Nat) : Byte := cmdSetDdram defaultCmd (ddramAddr defaultRowOffset rows row col)
    byte .two 2 0 = 0xC0 ∧ byte .four 3 0 = 0xD4 ∧ byte .one 3 7 = 0x87 ∧ byte .two 1 0x40 = 0x80 ∧
    byte .four 3 255 = 0xD3 ∧ byte .three 3 0 = 0x94 := by decide

/-! ## INIT (95_test_vectors.md 2.11) -/

/-- The bytes of V-LCD-INIT-2, in order. -/
theorem test_init_lcd_bytes :
    busBytes (events (exec .init lcdNew)) =
      [0x08] ++ [0x38, 0x3C, 0x38, 0x38, 0x3C, 0x38, 0x38, 0x3C, 0x38, 0x28, 0x2C, 0x28] ++
      [0x28, 0x2C, 0x28, 0x88, 0x8C, 0x88] ++ [0x08, 0x0C, 0x08, 0xC8, 0xCC, 0xC8] ++
      [0x08, 0x0C, 0x08, 0x68, 0x6C, 0x68] ++ [0x08, 0x0C, 0x08, 0x18, 0x1C, 0x18] ++
      [0x88, 0x8C, 0x88, 0x08, 0x0C, 0x08] := by decide +kernel

/-- Counts of V-LCD-INIT-2, events 1 to 3 and 10, and the state after (R251). -/
theorem test_init_lcd_waits :
    let es := events (exec .init lcdNew)
    (txnCount es, waitCount es, waitTotal es) = (43, 34, 1114928) ∧
    es.take 3 = [.wait 100000, tx 0x08, .wait 1000000] ∧ (es.drop 8)[0]? = some (.wait 4300) ∧
    field (·.functionSet) (exec .init lcdNew) =
      some { dl := false, n := true, f := false } := by decide +kernel

/-- V-OLED-INIT-4, the second byte of every transaction, 4 rows. -/
theorem test_init_oled_bytes :
    ((busBytes (events (exec .init { oledNew with rows := .four }))).filter fun b => b != 0x80) =
      [0x2A, 0x71, 0x40, 0x5C, 0x28, 0x08, 0x2A, 0x79, 0xD5, 0x70, 0xDA, 0x10, 0x81, 0xFF, 0xDB, 0x40, 0xDC, 0x00] ++
      [0x78, 0x28, 0x2A, 0x06, 0x09, 0x28, 0x01] ++ [0x28, 0x0C, 0x06, 0x01] := by decide +kernel

/-- Counts of V-OLED-INIT-4, its last five events, and the toggle after. -/
theorem test_init_oled_waits :
    let es := events (exec .init { oledNew with rows := .four })
    (txnCount es, waitCount es, waitTotal es) = (30, 30, 292000) ∧
    es.drop 55 = oc 0x01 ++ [.wait 2000] ++ oc 0x80 ∧
    field (·.oledRE) (exec .init oledNew) = some false ∧
    field (·.oledSD) (exec .init oledNew) = some false := by decide +kernel

/-! ## The other requests (95_test_vectors.md 2.4 to 2.10) -/

theorem test_clear_lcd : events (exec .clear lcd) = st 0x08 0x0C ++ st 0x18 0x1C ++ [.wait 2000] := by decide +kernel
theorem test_clear_oled : events (exec .clear oled) = oc 0x01 ++ [.wait 2000] := by decide +kernel
theorem test_home_lcd : events (exec .home lcd) = st 0x88 0x8C ++ st 0x08 0x0C := by decide +kernel
theorem test_home_oled : events (exec .home oled) = oc 0x80 := by decide +kernel
theorem test_move_lcd : events (exec (.move 1 5) lcd) = st 0xC8 0xCC ++ st 0x58 0x5C := by decide +kernel
theorem test_move_oled : events (exec (.move 1 5) oled) = oc 0xC5 := by decide +kernel
theorem test_dispoff : events (exec .dispoff lcd) = st 0x08 0x0C ++ st 0x88 0x8C := by decide +kernel
theorem test_dispon : events (exec .dispon lcd) = st 0x08 0x0C ++ st 0xC8 0xCC := by decide +kernel
theorem test_cursoron : events (exec .cursoron lcd) = st 0x08 0x0C ++ st 0xE8 0xEC := by decide +kernel
/-- V-SHADOW-1 step 5: the accumulation, not the last call. -/
theorem test_cursoroff :
    events (exec .cursoroff { lcd with displayControl := some { d := true, c := true, b := true } }) =
      st 0x08 0x0C ++ st 0xD8 0xDC := by decide +kernel
theorem test_blinkon : events (exec .blinkon lcd) = st 0x08 0x0C ++ st 0xD8 0xDC := by decide +kernel
theorem test_blinkoff :
    events (exec .blinkoff { lcd with displayControl := some { d := true, c := true, b := true } }) =
      st 0x08 0x0C ++ st 0xE8 0xEC := by decide +kernel
theorem test_shcurl : events (exec .shcurl lcd) = st 0x18 0x1C ++ st 0x08 0x0C := by decide +kernel
theorem test_shcurr : events (exec .shcurr lcd) = st 0x18 0x1C ++ st 0x48 0x4C := by decide +kernel
theorem test_shdispl : events (exec .shdispl lcd) = st 0x18 0x1C ++ st 0x88 0x8C := by decide +kernel
theorem test_shdispr : events (exec .shdispr oled) = oc 0x1C := by decide +kernel
theorem test_textrtl : events (exec .textrtl lcd) = st 0x08 0x0C ++ st 0x48 0x4C := by decide +kernel
theorem test_textltr : events (exec .textltr lcd) = st 0x08 0x0C ++ st 0x68 0x6C := by decide +kernel
theorem test_autoshifton : events (exec .autoshifton lcd) = st 0x08 0x0C ++ st 0x78 0x7C := by decide +kernel
theorem test_autoshiftoff : events (exec .autoshiftoff lcd) = st 0x08 0x0C ++ st 0x68 0x6C := by decide +kernel
theorem test_backlightoff :
    events (exec .backlightoff lcd) = [tx 0x00] ∧
    field (fun t => some t.backlight) (exec .backlightoff lcd) = some false := by decide +kernel
theorem test_backlighton : events (exec .backlighton { lcd with backlight := false }) = [tx 0x08] := by decide +kernel
/-- V-OLED-10: the value equals the contrast code. -/
theorem test_bright :
    events (exec (.bright 0x81) oled) = oc 0x2A ++ oc 0x79 ++ oc 0x81 ++ oc 0x81 ++ oc 0x78 ++ oc 0x28 := by
  decide +kernel
/-- V-GLYPH-2. -/
theorem test_glyph_oled :
    events (exec (.glyph 2 0x0E 0x11 0x11 0x11 0x1F 0x1B 0x1B 0x1F) oled) =
      oc 0x50 ++ od 0x0E ++ od 0x11 ++ od 0x11 ++ od 0x11 ++ od 0x1F ++ od 0x1B ++ od 0x1B ++ od 0x1F := by
  decide +kernel
/-- V-GLYPH-3: the command and the first byte, sent unmodified. -/
theorem test_glyph_lcd :
    (events (exec (.glyph 7 0xFF 0 0 0 0 0 0 0) lcd)).take 20 =
      st 0x78 0x7C ++ st 0x88 0x8C ++ st 0xF9 0xFD ++ st 0xF9 0xFD := by decide +kernel
/-- V-SEND-4: backlight off. -/
theorem test_write_lcd_dark :
    events (exec (.write 0x41) { lcd with backlight := false }) = st 0x41 0x45 ++ st 0x11 0x15 := by decide +kernel
theorem test_write_oled :
    events (exec (.write 0x41) oled) = od 0x41 ∧ result (exec (.write 0x41) oled) = some (.ok (some 1)) := by
  decide +kernel

/-! ## Faults (95_test_vectors.md 2.10) and stuck inputs -/

/-- V-FAULT-1 to V-FAULT-4: the initialisation check comes first. -/
theorem test_fault_not_initialized :
    result (exec (.write 0x41) lcdNew) = some (.faulted .notInitialized) ∧
    result (exec (.bright 0x10) lcdNew) = some (.faulted .notInitialized) ∧
    result (exec (.glyph 9 0 0 0 0 0 0 0 0) oledNew) = some (.faulted .notInitialized) ∧
    result (exec .backlightoff oledNew) = some (.faulted .notInitialized) := by decide +kernel

/-- V-FAULT-5 to V-FAULT-8. -/
theorem test_fault_after_init :
    result (exec .init lcd) = some (.faulted .alreadyInitialized) ∧
    result (exec (.bright 0x10) lcd) = some (.faulted .wrongFamily) ∧
    result (exec .backlighton oled) = some (.faulted .wrongFamily) ∧
    result (exec (.glyph 8 0 0 0 0 0 0 0 0) oled) = some (.faulted .badGlyphIndex) ∧
    events (exec .init lcd) = [] := by decide +kernel

/-- V-FAULT-9: halted, INIT included; the truncated and the empty input take no step either. -/
theorem test_no_step :
    step { lcd with fault := some .wrongFamily, input := [0x01] } = .fault .halted ∧
    step { lcd with input := [0x04, 0x01] } = .fault .truncatedRequest ∧ step lcd = .fault .awaitingRequest := by
  refine ⟨rfl, rfl, rfl⟩

/-- V-FAULT-10: decoding comes before the initialisation check, and one byte is consumed. -/
theorem test_fault_illegal :
    result (step { lcdNew with input := [0x00, 0x01] }) = some (.faulted .illegalRequest) ∧
    field (fun t => some t.input) (step { lcdNew with input := [0x00, 0x01] }) = some [0x01] := by decide +kernel

/-- P6: the missing byte arrives and the request runs. -/
theorem test_truncated_completed :
    events (step (deliver [0x05] { lcd with input := [0x04, 0x01] })) = st 0xC8 0xCC ++ st 0x58 0x5C := by
  decide +kernel

/-! ## Witnesses: the hypotheses of each statement hold together -/

theorem witness_StepRunsDecodedRequest :
    ({ lcd with input := [0x70, 0x41, 0x02] } : State).fault = none ∧
    decode [0x70, 0x41, 0x02] = .request (.write 0x41) [0x02] := by decide
theorem witness_IllegalOpcodeFaults : lcdNew.fault = none ∧ opcodeFormat 0x05 = none := by decide
theorem witness_TruncatedRequestTakesNoStep :
    lcd.fault = none ∧ opcodeFormat 0x60 = some .g ∧
    ([0x60, 0x02, 0x0E, 0x11, 0x11, 0x11, 0x1F, 0x1B, 0x1B] : List Byte).length < formatLength .g ∧
    lcd.input = [] := by decide
theorem witness_TruncatedRequestRunsWhenCompleted :
    0 < 9 ∧ 9 < (encode (.glyph 1 2 3 4 5 6 7 8 9)).length ∧ 0 < 1 ∧ 1 < (encode (.write 0x41)).length ∧
    ({ lcd with input := [0x70] } : State).input = (encode (.write 0x41)).take 1 := by decide
theorem witness_PlacedWordRunsNext :
    lcd.fault = none ∧ decodeTableWord 80 0x09080706050403020160 = some (.glyph 1 2 3 4 5 6 7 8 9) := by decide +kernel
theorem witness_GuardRaisesTheFirstFault :
    lcd.fault = none ∧ exec .init lcd = .next (afterFault lcd .alreadyInitialized) ∧
    exec .clear lcdNew = .next (afterFault lcdNew .notInitialized) ∧
    exec (.bright 0) lcd = .next (afterFault lcd .wrongFamily) ∧
    exec .backlightoff oled = .next (afterFault oled .wrongFamily) ∧
    exec (.glyph 8 0 0 0 0 0 0 0 0) oled = .next (afterFault oled .badGlyphIndex) := by
  refine ⟨rfl, rfl, rfl, rfl, rfl, rfl⟩
theorem witness_FaultsArePreciseAndHalt :
    exec .init lcd = .next (afterFault lcd .alreadyInitialized) ∧
    step { lcd with input := [0xFF, 0x02] } = .next (afterFault { lcd with input := [0x02] } .illegalRequest) ∧
    (afterFault lcd .alreadyInitialized).fault = some .alreadyInitialized := ⟨rfl, rfl, rfl⟩
theorem witness_UndefinedShadowIsNotRead :
    Ready { lcd with displayControl := none, entryMode := none } ∧ isDisplayRequest .blinkoff = true ∧
    isEntryRequest .textltr = true := ⟨⟨rfl, rfl⟩, rfl, rfl⟩
theorem witness_ConstructionRefusesIllegalConfigurations :
    (0 < 1 ∧ 4 < 5 ∧ 127 < 128 ∧ ({ defaultParams with pin := { defaultPin with bl := 2 } } : Params).wf = false) ∧
    (1 ≤ 4 ∧ 4 ≤ 4 ∧ 127 ≤ 127 ∧ defaultParams.wf = true) := by decide +kernel
theorem witness_InitOnLcd : Fresh lcdNew ∧ lcdNew.family = .lcd := ⟨⟨rfl, rfl⟩, rfl⟩
theorem witness_InitOnOled : Fresh oledNew ∧ oledNew.family = .oled := ⟨⟨rfl, rfl⟩, rfl⟩
theorem witness_SecondInitFaults : Ready lcd ∧ Ready oled := ⟨⟨rfl, rfl⟩, ⟨rfl, rfl⟩⟩
theorem witness_ClearSendsThenWaits : Ready oled ∧ Fresh oledNew := ⟨⟨rfl, rfl⟩, ⟨rfl, rfl⟩⟩
theorem witness_HomeIsMoveToOrigin : Ready lcd ∧ Fresh lcdNew := ⟨⟨rfl, rfl⟩, ⟨rfl, rfl⟩⟩
theorem witness_MoveSendsClampedAddress :
    Ready lcd ∧ lcd.rows.count ≤ (2 : Byte).toNat ∧ ¬ lcd.rows.count ≤ (1 : Byte).toNat ∧
    lcd.rows.count ≤ (255 : Byte).toNat ∧ Fresh lcdNew := ⟨⟨rfl, rfl⟩, by decide, by decide, by decide, ⟨rfl, rfl⟩⟩
theorem witness_DisplayRequestsRewriteOneFlag :
    Ready lcd ∧ lcd.displayControl = some { d := true, c := false, b := false } ∧ Fresh lcdNew ∧
    isDisplayRequest .cursoron = true := ⟨⟨rfl, rfl⟩, rfl, ⟨rfl, rfl⟩, rfl⟩
theorem witness_EntryRequestsRewriteOneFlag :
    Ready oled ∧ oled.entryMode = some { id := true, sh := false } ∧ Fresh oledNew ∧
    isEntryRequest .autoshifton = true := ⟨⟨rfl, rfl⟩, rfl, ⟨rfl, rfl⟩, rfl⟩
theorem witness_ShiftsAreStateless : Ready oled ∧ Fresh oledNew ∧ Instr.shdispr ∈ [Instr.shcurl, .shcurr, .shdispl, .shdispr] :=
  ⟨⟨rfl, rfl⟩, ⟨rfl, rfl⟩, by decide⟩
theorem witness_GlyphSendsAddressThenBitmap :
    Ready lcd ∧ (7 : Byte).toNat < 8 ∧ 8 ≤ (8 : Byte).toNat ∧ 8 ≤ (255 : Byte).toNat ∧ Fresh lcdNew :=
  ⟨⟨rfl, rfl⟩, by decide, by decide, by decide, ⟨rfl, rfl⟩⟩
theorem witness_BrightSendsItsSequence :
    (Ready oled ∧ oled.family = .oled ∧ oled.params.wf = true) ∧ (Ready lcd ∧ lcd.family = .lcd) ∧ Fresh lcdNew :=
  ⟨⟨⟨rfl, rfl⟩, rfl, by decide +kernel⟩, ⟨⟨rfl, rfl⟩, rfl⟩, ⟨rfl, rfl⟩⟩
theorem witness_BacklightWritesAndSendsRawByte :
    (Ready lcd ∧ lcd.family = .lcd) ∧ (Ready oled ∧ oled.family = .oled) ∧ Fresh oledNew ∧
    pinCheck lcd.params.pin = true ∧
    (0x44 : Byte) ∈ busBytes (lcdSendEvents { lcd with backlight := false } 0x40 false) :=
  ⟨⟨⟨rfl, rfl⟩, rfl⟩, ⟨⟨rfl, rfl⟩, rfl⟩, ⟨rfl, rfl⟩, by decide, by decide⟩
theorem witness_WriteSendsOneDataByte : Ready oled ∧ Fresh lcdNew := ⟨⟨rfl, rfl⟩, ⟨rfl, rfl⟩⟩
theorem witness_ShadowsAccumulateInCallOrder :
    Fresh lcdNew ∧ (∀ i ∈ [Instr.dispoff, .cursoron, .dispon, .blinkon, .cursoroff], isDisplayRequest i = true) ∧
    Fresh oledNew ∧ (∀ i ∈ [Instr.textrtl, .autoshifton, .textltr, .autoshiftoff], isEntryRequest i = true) :=
  ⟨⟨rfl, rfl⟩, by decide, ⟨rfl, rfl⟩, by decide⟩
theorem witness_LcdSixWritesWithTheirLines : lcd.family = .lcd ∧ pinCheck lcd.params.pin = true := by decide
theorem witness_StrobeBytesDifferInEnOnly : pinCheck { defaultPin with rs := 7, d7 := 0 } = true := by decide
theorem witness_LcdByteIsLatchedAsTwoNibbles :
    pinCheck lcd.params.pin = true ∧ (0xFB : Byte).getLsbD lcd.params.pin.en = false := by decide
theorem witness_InitNibbles : cmdCheck { defaultCmd with clear := 0x55 } = true := by decide
theorem witness_LcdInitTraceSize :
    Fresh lcdNew ∧ lcdNew.family = .lcd ∧ lcdNew.params.timing = defaultTiming ∧
    result (exec .init lcdNew) = some (.ok none) := ⟨⟨rfl, rfl⟩, rfl, rfl, by decide +kernel⟩
theorem witness_OledByteFraming : oled.family = .oled := rfl
theorem witness_ToggleEndsInFundamentalSet :
    oledNew.params.wf = true ∧ oledNew.family = .oled ∧ result (exec .init oledNew) = some (.ok none) ∧
    result (exec (.bright 0xFF) oled) = some (.ok none) := by decide +kernel
theorem witness_OledInitTraceSize :
    Fresh oledNew ∧ oledNew.family = .oled ∧ oledNew.params = defaultParams ∧
    result (exec .init oledNew) = some (.ok none) := ⟨⟨rfl, rfl⟩, rfl, rfl, by decide +kernel⟩
theorem witness_OledInitLineSelection :
    20 ≠ 21 ∧ (initSeqOf defaultOledInitSeq .one)[20]? = some (.cmd 0x06 .keep) ∧ 22 ≠ 21 := by decide
theorem witness_BrightnessSequenceShape :
    oledBrightSeqCheck [.fixed (.cmd 0x2A .re1), .value, .fixed (.cmd 0x79 .sd1), .fixed (.cmd 0x81 .keep),
      .fixed (.cmd 0x78 .sd0), .fixed (.cmd 0x28 .re0)] = true := by decide
theorem witness_ShadowBytesAreInjective :
    cmdCheck defaultCmd = true ∧ defaultCmd.dctlD ≠ 0 ∧ defaultCmd.dctlC ≠ 0 ∧ defaultCmd.dctlB ≠ 0 ∧
    defaultCmd.entryId ≠ 0 ∧ defaultCmd.entrySh ≠ 0 ∧ defaultCmd.fsetDl ≠ 0 ∧ defaultCmd.fsetN ≠ 0 ∧
    defaultCmd.fsetF ≠ 0 := by decide
theorem witness_AddressCommandsUnderDefaultCodes : 7 < 8 := by decide
/-- A step that answers a next state: the hypothesis of the statements about every step. -/
theorem witness_steps_answer_next :
    result (step { lcd with input := [0x13] }) = some (.ok none) ∧
    result (step { oled with input := [0x50, 0x40, 0x02] }) = some (.ok none) := by decide +kernel
/-- A request that answers a next state and changes a field, for each field of
`OnlyListedRequestsWriteEachField`. -/
theorem witness_OnlyListedRequestsWriteEachField :
    field (fun t => some t.initialized) (exec .init lcdNew) = some true ∧
    field (·.fault) (exec .init lcd) = some .alreadyInitialized ∧
    field (fun t => some t.backlight) (exec .backlightoff lcd) = some false ∧
    field (·.entryMode) (exec .textrtl lcd) = some { id := false, sh := false } ∧
    field (·.displayControl) (exec .dispoff lcd) = some { d := false, c := false, b := false } ∧
    field (·.functionSet) (exec .init oledNew) = some { dl := false, n := true, f := false } ∧
    field (·.oledRE) (exec .init oledNew) = some false := by decide +kernel
/-- Two handles of equal configuration that both complete the request. -/
theorem witness_EventPatternIsFixedByConfiguration :
    ({ lcd with backlight := false } : State).family = lcd.family ∧
    ({ lcd with backlight := false } : State).rows = lcd.rows ∧
    ({ lcd with backlight := false } : State).params = lcd.params ∧
    result (exec (.write 1) lcd) = some (.ok (some 1)) ∧
    result (exec (.write 1) { lcd with backlight := false }) = some (.ok (some 1)) := by decide +kernel
/-- Two fresh handles that differ in what INIT does not read. -/
theorem witness_InitIsDeterministicInConfiguration :
    result (exec .init lcdNew) = some (.ok none) ∧
    result (exec .init { lcdNew with input := [0x01], results := [.ok none] }) = some (.ok none) := by decide +kernel
theorem witness_RequestCountsOfTheTable :
    lcd.params = defaultParams ∧ result (exec .clear lcd) = some (.ok none) ∧
    result (exec (.bright 0) lcd) = some (.faulted .wrongFamily) := by decide +kernel
theorem witness_ConstructionMeetsTheInvariant : defaultParams.wf = true ∧ handleInv State.reset = true := by decide +kernel
theorem witness_StepKeepsTheInvariant :
    handleInv { oledNew with input := [0x01, 0x50, 0x40] } = true ∧
    result (step { oledNew with input := [0x01, 0x50, 0x40] }) = some (.ok none) ∧
    handleInv { lcd with input := [0x15] } = true ∧
    result (step { lcd with input := [0x15] }) = some (.ok none) := by decide +kernel

end Sys2Proof.Tests
end

section
/-! SUPPORT. The normal form of a request: the fields it writes, the toggle it leaves, the events it emits and its
result, each as one function of the request and the handle, and `exec` as the guard around them (`exec_eq`). The
inversion lemmas `exec_next` and `step_next` and the frame lemmas of `afterRequest` are what the proofs about every
request use. -/

namespace Sys2Proof.Machine

/-! ## What a request that runs does -/

/-- The handle with the fields a request writes, beside the toggle, the trace and the results (10_state.md R36). -/
def fieldsAfter (i : Instr) (s : State) : State :=
  match i with
  | .init => setInitialized (storeShadows s)
  | .dispoff | .dispon | .cursoroff | .cursoron | .blinkoff | .blinkon =>
    { s with displayControl := s.displayControl.map (accumulateDisplay · i) }
  | .textrtl | .textltr | .autoshiftoff | .autoshifton =>
    { s with entryMode := s.entryMode.map (accumulateEntry · i) }
  | .backlightoff => setBacklight false s
  | .backlighton => setBacklight true s
  | .clear | .home | .move _ _ | .shcurl | .shcurr | .shdispl | .shdispr | .bright _ | .glyph _ _ _ _ _ _ _ _ _
  | .write _ => s

/-- The toggle INIT leaves: only OLED sends a sequence with tags (42_oled_backend.md R200). -/
def toggleAfterInit (s : State) : Toggle :=
  match s.family with
  | .lcd => toggleOf s
  | .oled => replayTags (toggleOf s) (initSeqOf s.params.oledInitSeq s.rows)

/-- The toggle a request leaves: the tags of the sequences it sends, replayed (42_oled_backend.md R195, R196). -/
def toggleAfter (i : Instr) (s : State) : Toggle :=
  match i with
  | .init => toggleAfterInit s
  | .bright v => replayTags (toggleOf s) (brightSeqOf s.params.oledBrightSeq v)
  | _ => toggleOf s

/-- The events of the three shadow commands INIT sends (41_lcd_backend.md R175). -/
def shadowEvents (s : State) : List Event :=
  commandEvents s (cmdFunction s.params.cmd (initFunctionSet s.rows)) ++
  commandEvents s (cmdDisplay s.params.cmd initDisplayControl) ++
  commandEvents s (cmdEntry s.params.cmd initEntryMode)

/-- The events of one synchronisation round (41_lcd_backend.md R173). -/
def lcdSyncEvents (s : State) : List Event :=
  lcdStrobeEvents s (nibSync s.params.cmd) false ++ [.wait s.params.timing.tSync]

/-- The events of the LCD power-up steps (41_lcd_backend.md R171 to R174). -/
def lcdPowerUpEvents (s : State) : List Event :=
  [.wait s.params.timing.tPowerup] ++ lcdRawEvents s s.backlight ++ [.wait s.params.timing.tBlSettle] ++
  (lcdSyncEvents s ++ lcdSyncEvents s ++ lcdSyncEvents s) ++ lcdStrobeEvents s (nib4bit s.params.cmd) false

/-- The events of `clearBody` (40_command_surface.md R111). -/
def clearEvents (s : State) : List Event :=
  commandEvents s s.params.cmd.clear ++ [.wait s.params.timing.tClear]

/-- The events of `homeBody` (40_command_surface.md R112). -/
def homeEvents (s : State) : List Event :=
  commandEvents s (cmdSetDdram s.params.cmd s.params.rowOffset.row0.toNat)

/-- The events of the OLED tail (42_oled_backend.md R202). -/
def oledTailEvents (s : State) : List Event := if s.params.oledTailSends then shadowEvents s else []

/-- The events of INIT before its clear and home (41_lcd_backend.md R170; 42_oled_backend.md R200, R202). -/
def initHeadEvents (s : State) : List Event :=
  match s.family with
  | .lcd => lcdPowerUpEvents s ++ shadowEvents s
  | .oled => (initSeqOf s.params.oledInitSeq s.rows).flatMap (entryEvents s) ++ oledTailEvents s

/-- The events a request that runs emits, from the handle it runs on (40_command_surface.md R110 to R131). -/
def requestEvents (i : Instr) (s : State) : List Event :=
  match i with
  | .init => initHeadEvents s ++ clearEvents s ++ homeEvents s
  | .clear => clearEvents s
  | .home => homeEvents s
  | .move row col =>
    commandEvents s (cmdSetDdram s.params.cmd (ddramAddr s.params.rowOffset s.rows row.toNat col.toNat))
  | .dispoff | .dispon | .cursoroff | .cursoron | .blinkoff | .blinkon =>
    s.displayControl.elim [] fun dc => commandEvents s (cmdDisplay s.params.cmd (accumulateDisplay dc i))
  | .textrtl | .textltr | .autoshiftoff | .autoshifton =>
    s.entryMode.elim [] fun em => commandEvents s (cmdEntry s.params.cmd (accumulateEntry em i))
  | .shcurl => commandEvents s (cmdShift s.params.cmd false false)
  | .shcurr => commandEvents s (cmdShift s.params.cmd false true)
  | .shdispl => commandEvents s (cmdShift s.params.cmd true false)
  | .shdispr => commandEvents s (cmdShift s.params.cmd true true)
  | .backlightoff => lcdRawEvents s false
  | .backlighton => lcdRawEvents s true
  | .bright v => (brightSeqOf s.params.oledBrightSeq v).flatMap (entryEvents s)
  | .glyph idx m0 m1 m2 m3 m4 m5 m6 m7 =>
    commandEvents s (cmdSetCgram s.params.cmd (cgramAddr idx.toNat)) ++
      [m0, m1, m2, m3, m4, m5, m6, m7].flatMap (dataEvents s)
  | .write v => dataEvents s v

/-- The value a request returns: WRITE "always reports one unit consumed" (40_command_surface.md R131). -/
def requestRet : Instr → Option Nat
  | .write _ => some 1
  | _ => none

/-- The handle after a request's events, before its result is given. -/
def ranRequest (i : Instr) (s : State) : State :=
  emit (requestEvents i s) (setToggle (toggleAfter i s) (fieldsAfter i s))

/-- The handle after a request that runs. -/
def afterRequest (i : Instr) (s : State) : State := complete (requestRet i) (ranRequest i s)

/-- The shadow a request reads, if any, is defined (10_state.md R31, R32). -/
def readsDefined (i : Instr) (s : State) : Bool :=
  (!isDisplayRequest i || s.displayControl.isSome) && (!isEntryRequest i || s.entryMode.isSome)

/-- What a request does once its guard has passed: `exec_eq` ties it to the model. -/
def requestBody (i : Instr) (s : State) : StepOutcome :=
  if readsDefined i s then .next (afterRequest i s) else .fault .undefinedShadow

/-! ## The body of INIT -/

section InitBody

variable (s : State)

@[simp] theorem storeShadows_emit (es : List Event) : storeShadows (emit es s) = emit es (storeShadows s) := rfl
@[simp] theorem storeShadows_setToggle (t : Toggle) : storeShadows (setToggle t s) = setToggle t (storeShadows s) := rfl
@[simp] theorem setInitialized_setToggle (t : Toggle) :
    setInitialized (setToggle t s) = setToggle t (setInitialized s) := rfl
@[simp] theorem shadowEvents_emit (es : List Event) : shadowEvents (emit es s) = shadowEvents s := rfl
@[simp] theorem shadowEvents_setToggle (t : Toggle) : shadowEvents (setToggle t s) = shadowEvents s := rfl
@[simp] theorem oledTailEvents_emit (es : List Event) : oledTailEvents (emit es s) = oledTailEvents s := rfl
@[simp] theorem oledTailEvents_setToggle (t : Toggle) : oledTailEvents (setToggle t s) = oledTailEvents s := rfl
@[simp] theorem clearEvents_emit (es : List Event) : clearEvents (emit es s) = clearEvents s := rfl
@[simp] theorem clearEvents_setToggle (t : Toggle) : clearEvents (setToggle t s) = clearEvents s := rfl
@[simp] theorem clearEvents_storeShadows : clearEvents (storeShadows s) = clearEvents s := rfl
@[simp] theorem homeEvents_emit (es : List Event) : homeEvents (emit es s) = homeEvents s := rfl
@[simp] theorem homeEvents_setToggle (t : Toggle) : homeEvents (setToggle t s) = homeEvents s := rfl
@[simp] theorem homeEvents_storeShadows : homeEvents (storeShadows s) = homeEvents s := rfl
@[simp] theorem lcdRawEvents_emit (es : List Event) (b : Bool) : lcdRawEvents (emit es s) b = lcdRawEvents s b := rfl

theorem lcdStrobe_eq (nib : Nibble) (rs : Bool) : lcdStrobe nib rs s = emit (lcdStrobeEvents s nib rs) s := rfl

theorem lcdRaw_eq (b : Bool) : lcdRaw b s = emit (lcdRawEvents s b) s := rfl

/-- The LCD power-up steps emit their events and change nothing else (41_lcd_backend.md R171 to R174). -/
theorem lcdPowerUp_eq : lcdPowerUp s = emit (lcdPowerUpEvents s) s := by
  simp [lcdPowerUp, lcdPowerUpEvents, lcdSyncRound, lcdSyncEvents, lcdStrobe_eq, lcdRaw_eq]

/-- Recording and sending the shadows in terms of `shadowEvents` (41_lcd_backend.md R175). -/
theorem sendShadows_eq_emit_shadowEvents : sendShadows s = emit (shadowEvents s) (storeShadows s) := sendShadows_eq s

/-- The OLED tail stores the shadows and sends them or not (42_oled_backend.md R202). -/
theorem oledTail_eq : oledTail s = emit (oledTailEvents s) (storeShadows s) := by
  unfold oledTail oledTailEvents
  split
  · exact sendShadows_eq_emit_shadowEvents s
  · simp

/-- The `clear()` and `home()` that end INIT emit their events (40_command_surface.md R111, R112). -/
theorem homeBody_clearBody_eq : homeBody (clearBody s) = emit (clearEvents s ++ homeEvents s) s := by
  simp [homeBody_eq, clearBody_eq, clearEvents, homeEvents]

/-- INIT emits its events, stores the shadows and replays the tags of the sequence it sends
(41_lcd_backend.md R170; 42_oled_backend.md R200). -/
theorem initBody_eq : initBody s = ranRequest .init s := by
  cases hf : s.family with
  | lcd =>
    have hinit : lcdInit s = emit (initHeadEvents s ++ clearEvents s ++ homeEvents s) (storeShadows s) := by
      simp [lcdInit, homeBody_clearBody_eq, sendShadows_eq_emit_shadowEvents, lcdPowerUp_eq, initHeadEvents, hf]
    simp only [initBody, hf, hinit, ranRequest, requestEvents, toggleAfter, toggleAfterInit, fieldsAfter]
    rfl
  | oled =>
    have hinit : oledInit s = emit (initHeadEvents s ++ clearEvents s ++ homeEvents s)
        (setToggle (toggleAfterInit s) (storeShadows s)) := by
      simp [oledInit, homeBody_clearBody_eq, oledTail_eq, oledSendSeq_eq, initHeadEvents, toggleAfterInit, hf]
    simp only [initBody, hf, hinit, ranRequest, requestEvents, toggleAfter, fieldsAfter]
    rfl

end InitBody

/-! ## `exec` in normal form -/

/-- A display request from a defined shadow records the shadow with its flag changed (40_command_surface.md R115). -/
theorem ranRequest_of_display {i : Instr} {s : State} {dc : DisplayControl} (hi : isDisplayRequest i = true)
    (hdc : s.displayControl = some dc) : ranRequest i s = recordDisplayControl (accumulateDisplay dc i) s := by
  rw [recordDisplayControl_eq]
  cases i <;> cases hi <;> simp [ranRequest, requestEvents, toggleAfter, fieldsAfter, hdc] <;> rfl

/-- An entry-mode request from a defined shadow records the shadow with its flag changed
(40_command_surface.md R115). -/
theorem ranRequest_of_entry {i : Instr} {s : State} {em : EntryMode} (hi : isEntryRequest i = true)
    (hem : s.entryMode = some em) : ranRequest i s = recordEntryMode (accumulateEntry em i) s := by
  rw [recordEntryMode_eq]
  cases i <;> cases hi <;> simp [ranRequest, requestEvents, toggleAfter, fieldsAfter, hem] <;> rfl

/-- A display request reads the display-control shadow and no other. -/
theorem readsDefined_of_display {i : Instr} (hi : isDisplayRequest i = true) (s : State) :
    readsDefined i s = s.displayControl.isSome := by
  cases i <;> cases hi <;> simp [readsDefined, isDisplayRequest, isEntryRequest]

/-- An entry-mode request reads the entry-mode shadow and no other. -/
theorem readsDefined_of_entry {i : Instr} (hi : isEntryRequest i = true) (s : State) :
    readsDefined i s = s.entryMode.isSome := by
  cases i <;> cases hi <;> simp [readsDefined, isDisplayRequest, isEntryRequest]

/-- A display read-modify-write is the body of its request: no value is picked for an undefined shadow
(40_command_surface.md R115; 10_state.md R32). -/
theorem rmwDisplayControl_eq {i : Instr} (hi : isDisplayRequest i = true) (s : State) :
    rmwDisplayControl (accumulateDisplay · i) s = requestBody i s := by
  have hret : requestRet i = none := by cases i <;> cases hi <;> rfl
  cases hdc : s.displayControl with
  | none => simp [rmwDisplayControl, requestBody, readsDefined_of_display hi, hdc]
  | some dc =>
    simp [rmwDisplayControl, requestBody, afterRequest, readsDefined_of_display hi, ranRequest_of_display hi hdc, hdc,
      hret]

/-- An entry-mode read-modify-write is the body of its request (40_command_surface.md R115; 10_state.md R32). -/
theorem rmwEntryMode_eq {i : Instr} (hi : isEntryRequest i = true) (s : State) :
    rmwEntryMode (accumulateEntry · i) s = requestBody i s := by
  have hret : requestRet i = none := by cases i <;> cases hi <;> rfl
  cases hem : s.entryMode with
  | none => simp [rmwEntryMode, requestBody, readsDefined_of_entry hi, hem]
  | some em =>
    simp [rmwEntryMode, requestBody, afterRequest, readsDefined_of_entry hi, ranRequest_of_entry hi hem, hem, hret]

/-- The course of a request asks its body about the handle it runs on only. -/
theorem runRequest_congr {i : Instr} {body body' : State → StepOutcome} {s : State} (h : body s = body' s) :
    runRequest i body s = runRequest i body' s := by
  simp [runRequest, h]

/-- A display request in normal form (40_command_surface.md R116 to R121). -/
theorem exec_of_display {i : Instr} (hi : isDisplayRequest i = true) (s : State) :
    exec i s = runRequest i (requestBody i) s := by
  rw [← runRequest_congr (rmwDisplayControl_eq hi s)]
  cases i <;> cases hi <;> rfl

/-- An entry-mode request in normal form (40_command_surface.md R126, R127). -/
theorem exec_of_entry {i : Instr} (hi : isEntryRequest i = true) (s : State) :
    exec i s = runRequest i (requestBody i) s := by
  rw [← runRequest_congr (rmwEntryMode_eq hi s)]
  cases i <;> cases hi <;> rfl

/-- A request that reads no shadow, in normal form. -/
theorem runTotal_eq {i : Instr} {body : State → State} {s : State} (hread : readsDefined i s = true)
    (hbody : body s = ranRequest i s) : runTotal i (requestRet i) body s = runRequest i (requestBody i) s :=
  runRequest_congr (by simp [requestBody, hread, hbody, afterRequest])

/-- GLYPH emits its address command and its bitmap (40_command_surface.md R128). -/
theorem glyphBody_eq (idx : Byte) (bitmap : List Byte) (s : State) :
    glyphBody idx bitmap s =
      emit (commandEvents s (cmdSetCgram s.params.cmd (cgramAddr idx.toNat)) ++ bitmap.flatMap (dataEvents s)) s := by
  simp [glyphBody, sendCommand_eq, sendDataAll_eq]

/-- Every request is the guard of 60_exceptions.md R221 around its body in normal form. -/
theorem exec_eq (i : Instr) (s : State) : exec i s = runRequest i (requestBody i) s :=
  match i with
  | .init => runTotal_eq rfl (initBody_eq s)
  | .clear => runTotal_eq rfl (clearBody_eq s)
  | .home => runTotal_eq rfl (homeBody_eq s)
  | .move row col => runTotal_eq rfl (moveBody_eq row.toNat col.toNat s)
  | .dispoff | .dispon | .cursoroff | .cursoron | .blinkoff | .blinkon => exec_of_display rfl s
  | .textrtl | .textltr | .autoshiftoff | .autoshifton => exec_of_entry rfl s
  | .shcurl | .shcurr | .shdispl | .shdispr => runTotal_eq rfl (sendCommand_eq _ s)
  | .backlightoff | .backlighton => runTotal_eq rfl rfl
  | .bright _ => runTotal_eq rfl (oledSendSeq_eq _ s)
  | .glyph idx m0 m1 m2 m3 m4 m5 m6 m7 => runTotal_eq rfl (glyphBody_eq idx [m0, m1, m2, m3, m4, m5, m6, m7] s)
  | .write v => runTotal_eq rfl (sendData_eq v s)

/-! ## Inversion: what a request and a step can do -/

/-- What a request that answers a next state has done: raised the guard's fault, or run. -/
theorem exec_next {i : Instr} {s t : State} (h : exec i s = .next t) :
    s.fault = none ∧
      ((∃ r, requestGuard i s = some r ∧ t = raiseFault r s) ∨
        (requestGuard i s = none ∧ readsDefined i s = true ∧ t = afterRequest i s)) := by
  rw [exec_eq] at h
  obtain ⟨hf, hfault | ⟨hg, hbody⟩⟩ := runRequest_next h
  · exact ⟨hf, .inl hfault⟩
  · unfold requestBody at hbody
    split at hbody
    · next hread =>
      cases hbody
      exact ⟨hf, .inr ⟨hg, hread, rfl⟩⟩
    · cases hbody

/-- A request that passes its guard and reads only what is defined runs. -/
theorem exec_of_guard {i : Instr} {s : State} (hf : s.fault = none) (hg : requestGuard i s = none)
    (hread : readsDefined i s = true) : exec i s = .next (afterRequest i s) := by
  rw [exec_eq, runRequest_of_guard hf hg, requestBody, if_pos hread]

/-- A request that passes its guard and would read an undefined shadow stops (10_state.md R32). -/
theorem exec_of_undefined {i : Instr} {s : State} (hf : s.fault = none) (hg : requestGuard i s = none)
    (hread : readsDefined i s = false) : exec i s = .fault .undefinedShadow := by
  rw [exec_eq, runRequest_of_guard hf hg]
  simp [requestBody, hread]

/-- A request its guard refuses raises the guard's fault (60_exceptions.md R220, R221). -/
theorem exec_of_guard_fault {i : Instr} {s : State} {r : FaultReason} (hf : s.fault = none)
    (hg : requestGuard i s = some r) : exec i s = .next (raiseFault r s) := by
  rw [exec_eq]
  simp [runRequest, hf, hg]

section Step

variable {s : State}

/-- The halted block takes no step (60_exceptions.md R220). -/
theorem step_of_fault {r : FaultReason} (hf : s.fault = some r) : step s = .fault .halted := by
  simp [step, cycle, hf]

/-- A step runs the request its input begins with (30_encoding.md R71). -/
theorem step_of_request {i : Instr} {rest : List Byte} (hf : s.fault = none) (hd : decode s.input = .request i rest) :
    step s = exec i (setInput rest s) := by
  simp [step, cycle, hf, hd]

/-- A step on an illegal opcode takes its byte and raises `IllegalRequest` (30_encoding.md R75). -/
theorem step_of_illegal {op : Byte} {rest : List Byte} (hf : s.fault = none)
    (hd : decode s.input = .illegal op rest) : step s = .next (raiseFault .illegalRequest (setInput rest s)) := by
  simp [step, cycle, hf, hd]

/-- A truncated request leaves the block stuck (30_encoding.md R76). -/
theorem step_of_truncated {op : Byte} (hf : s.fault = none) (hd : decode s.input = .truncated op) :
    step s = .fault .truncatedRequest := by
  simp [step, cycle, hf, hd]

/-- With no input the block waits (30_encoding.md R76, R77). -/
theorem step_of_empty (hf : s.fault = none) (hd : decode s.input = .empty) : step s = .fault .awaitingRequest := by
  simp [step, cycle, hf, hd]

/-- What a step that answers a next state has done: taken and run a request, or taken an illegal opcode. -/
theorem step_next {t : State} (h : step s = .next t) :
    s.fault = none ∧
      ((∃ i rest, decode s.input = .request i rest ∧ exec i (setInput rest s) = .next t) ∨
        (∃ op rest, decode s.input = .illegal op rest ∧ t = raiseFault .illegalRequest (setInput rest s))) := by
  cases hf : s.fault with
  | some r =>
    rw [step_of_fault hf] at h
    cases h
  | none =>
    refine ⟨rfl, ?_⟩
    cases hd : decode s.input with
    | request i rest => exact .inl ⟨i, rest, rfl, step_of_request hf hd ▸ h⟩
    | illegal op rest =>
      rw [step_of_illegal hf hd] at h
      cases h
      exact .inr ⟨op, rest, rfl, rfl⟩
    | truncated op =>
      rw [step_of_truncated hf hd] at h
      cases h
    | empty =>
      rw [step_of_empty hf hd] at h
      cases h

end Step

/-! ## The guard -/

/-- The guard passes when each of its checks does (60_exceptions.md R221). -/
theorem requestGuard_eq_none_iff {i : Instr} {s : State} :
    requestGuard i s = none ↔ guardInitialized i s = none ∧ guardFamily i s = none ∧ guardOperand i = none := by
  unfold requestGuard
  cases guardInitialized i s <;> cases guardFamily i s <;> simp

/-- BACKLIGHT* passes the guard on LCD only (60_exceptions.md R224). -/
theorem family_of_backlight_guard {i : Instr} {s : State} (hg : requestGuard i s = none)
    (hi : i = .backlightoff ∨ i = .backlighton) : s.family = .lcd := by
  obtain ⟨-, hfam, -⟩ := requestGuard_eq_none_iff.mp hg
  obtain rfl | rfl := hi <;> simpa [guardFamily] using hfam

/-- BRIGHT passes the guard on OLED only (60_exceptions.md R224). -/
theorem family_of_bright_guard {v : Byte} {s : State} (hg : requestGuard (.bright v) s = none) : s.family = .oled := by
  obtain ⟨-, hfam, -⟩ := requestGuard_eq_none_iff.mp hg
  simpa [guardFamily] using hfam

/-- No request but INIT is refused for the lifecycle of an initialised handle (60_exceptions.md R221, R223). -/
theorem guardInitialized_of_ne_init {i : Instr} {s : State} (hinit : s.initialized = true) (hi : i ≠ .init) :
    guardInitialized i s = none := by
  cases i
  case init => exact absurd rfl hi
  all_goals simp [guardInitialized, hinit]

/-- The requests that read a shadow are in both families and have no operand to refuse. -/
theorem guard_checks_of_shadow_request {i : Instr} (hi : isDisplayRequest i = true ∨ isEntryRequest i = true)
    (s : State) : i ≠ .init ∧ guardFamily i s = none ∧ guardOperand i = none := by
  cases i <;> simp [isDisplayRequest, isEntryRequest] at hi <;> exact ⟨by simp, rfl, rfl⟩

/-- On an initialised handle the guard passes a request that reads a shadow (60_exceptions.md R221). -/
theorem requestGuard_of_shadow_request {i : Instr} {s : State} (hinit : s.initialized = true)
    (hi : isDisplayRequest i = true ∨ isEntryRequest i = true) : requestGuard i s = none := by
  obtain ⟨hne, hfam, hop⟩ := guard_checks_of_shadow_request hi s
  exact requestGuard_eq_none_iff.mpr ⟨guardInitialized_of_ne_init hinit hne, hfam, hop⟩

/-! ## Frame: what a request that runs leaves unchanged -/

section Frame

variable (i : Instr) (s : State)

@[simp] theorem fieldsAfter_family : (fieldsAfter i s).family = s.family := by cases i <;> rfl
@[simp] theorem fieldsAfter_addr : (fieldsAfter i s).addr = s.addr := by cases i <;> rfl
@[simp] theorem fieldsAfter_rows : (fieldsAfter i s).rows = s.rows := by cases i <;> rfl
@[simp] theorem fieldsAfter_params : (fieldsAfter i s).params = s.params := by cases i <;> rfl
@[simp] theorem fieldsAfter_fault : (fieldsAfter i s).fault = s.fault := by cases i <;> rfl
@[simp] theorem fieldsAfter_trace : (fieldsAfter i s).trace = s.trace := by cases i <;> rfl
@[simp] theorem fieldsAfter_input : (fieldsAfter i s).input = s.input := by cases i <;> rfl
@[simp] theorem fieldsAfter_results : (fieldsAfter i s).results = s.results := by cases i <;> rfl

/-- Only INIT writes `S.initialized` (10_state.md R24). -/
theorem fieldsAfter_initialized :
    (fieldsAfter i s).initialized = s.initialized ∨ i = .init ∧ (fieldsAfter i s).initialized = true := by
  cases i
  case init => exact .inr ⟨rfl, rfl⟩
  all_goals exact .inl rfl

/-- Only BACKLIGHT* writes `S.backlight` (10_state.md R26). -/
theorem fieldsAfter_backlight :
    (fieldsAfter i s).backlight = s.backlight ∨ i = .backlightoff ∨ i = .backlighton := by
  cases i
  case backlightoff => exact .inr (.inl rfl)
  case backlighton => exact .inr (.inr rfl)
  all_goals exact .inl rfl

/-- Only INIT and the entry-mode requests write the entry-mode shadow (10_state.md R27). -/
theorem fieldsAfter_entryMode :
    (fieldsAfter i s).entryMode = s.entryMode ∨ i = .init ∨ isEntryRequest i = true := by
  cases i
  case init => exact .inr (.inl rfl)
  case textrtl | textltr | autoshiftoff | autoshifton => exact .inr (.inr rfl)
  all_goals exact .inl rfl

/-- Only INIT and the display requests write the display-control shadow (10_state.md R28). -/
theorem fieldsAfter_displayControl :
    (fieldsAfter i s).displayControl = s.displayControl ∨ i = .init ∨ isDisplayRequest i = true := by
  cases i
  case init => exact .inr (.inl rfl)
  case dispoff | dispon | cursoroff | cursoron | blinkoff | blinkon => exact .inr (.inr rfl)
  all_goals exact .inl rfl

/-- Only INIT writes the function-set shadow (10_state.md R29). -/
theorem fieldsAfter_functionSet : (fieldsAfter i s).functionSet = s.functionSet ∨ i = .init := by
  cases i
  case init => exact .inr rfl
  all_goals exact .inl rfl

/-- Only INIT and BRIGHT move the toggle, INIT on OLED only (10_state.md R30). -/
theorem toggleAfter_cases :
    toggleAfter i s = toggleOf s ∨ s.family = .oled ∧ i = .init ∨ ∃ v, i = .bright v := by
  cases i
  case init => cases hf : s.family <;> simp [toggleAfter, toggleAfterInit, hf]
  case bright v => simp
  all_goals exact .inl rfl

@[simp] theorem afterRequest_family : (afterRequest i s).family = s.family := by simp [afterRequest, ranRequest]
@[simp] theorem afterRequest_addr : (afterRequest i s).addr = s.addr := by simp [afterRequest, ranRequest]
@[simp] theorem afterRequest_rows : (afterRequest i s).rows = s.rows := by simp [afterRequest, ranRequest]
@[simp] theorem afterRequest_params : (afterRequest i s).params = s.params := by simp [afterRequest, ranRequest]
@[simp] theorem afterRequest_fault : (afterRequest i s).fault = s.fault := by simp [afterRequest, ranRequest]
@[simp] theorem afterRequest_input : (afterRequest i s).input = s.input := by simp [afterRequest, ranRequest]
@[simp] theorem afterRequest_initialized : (afterRequest i s).initialized = (fieldsAfter i s).initialized := by
  simp [afterRequest, ranRequest]
@[simp] theorem afterRequest_backlight : (afterRequest i s).backlight = (fieldsAfter i s).backlight := by
  simp [afterRequest, ranRequest]
@[simp] theorem afterRequest_entryMode : (afterRequest i s).entryMode = (fieldsAfter i s).entryMode := by
  simp [afterRequest, ranRequest]
@[simp] theorem afterRequest_displayControl :
    (afterRequest i s).displayControl = (fieldsAfter i s).displayControl := by
  simp [afterRequest, ranRequest]
@[simp] theorem afterRequest_functionSet : (afterRequest i s).functionSet = (fieldsAfter i s).functionSet := by
  simp [afterRequest, ranRequest]
@[simp] theorem afterRequest_oledRE : (afterRequest i s).oledRE = (toggleAfter i s).1 := by
  simp [afterRequest, ranRequest]
@[simp] theorem afterRequest_oledSD : (afterRequest i s).oledSD = (toggleAfter i s).2 := by
  simp [afterRequest, ranRequest]
@[simp] theorem afterRequest_trace : (afterRequest i s).trace = s.trace ++ requestEvents i s := by
  simp [afterRequest, ranRequest]
@[simp] theorem afterRequest_results : (afterRequest i s).results = s.results ++ [.ok (requestRet i)] := by
  simp [afterRequest, ranRequest]

end Frame

/-! ## The toggle is read by nothing but its own update -/

section Ghost

variable (i : Instr) (t : Toggle) (s : State)

@[simp] theorem requestGuard_setToggle : requestGuard i (setToggle t s) = requestGuard i s := by cases i <;> rfl
@[simp] theorem readsDefined_setToggle : readsDefined i (setToggle t s) = readsDefined i s := rfl
@[simp] theorem fieldsAfter_setToggle : fieldsAfter i (setToggle t s) = setToggle t (fieldsAfter i s) := by
  cases i <;> rfl
@[simp] theorem requestEvents_setToggle : requestEvents i (setToggle t s) = requestEvents i s := by cases i <;> rfl
@[simp] theorem forgetToggle_fault : (forgetToggle s).fault = s.fault := rfl
@[simp] theorem forgetToggle_input : (forgetToggle s).input = s.input := rfl

/-- Forgetting the toggle after a request leaves nothing of the toggle it left. -/
theorem forgetToggle_afterRequest :
    forgetToggle (afterRequest i s) =
      complete (requestRet i) (emit (requestEvents i s) (setToggle (none, none) (fieldsAfter i s))) := rfl

/-- A request that runs does the same, the toggle apart, from a handle whose toggle is forgotten. -/
theorem forgetToggle_afterRequest_forgetToggle :
    forgetToggle (afterRequest i (forgetToggle s)) = forgetToggle (afterRequest i s) := by
  rw [forgetToggle_afterRequest, forgetToggle_afterRequest]
  simp [forgetToggle]

/-- The body of a request does the same, the toggle apart, from a handle whose toggle is forgotten. -/
theorem requestBody_forgetToggle :
    seenThrough forgetToggle (requestBody i (forgetToggle s)) = seenThrough forgetToggle (requestBody i s) := by
  have hread : readsDefined i (forgetToggle s) = readsDefined i s := readsDefined_setToggle i _ s
  unfold requestBody
  rw [hread]
  split
  · exact congrArg Host.Outcome.next (forgetToggle_afterRequest_forgetToggle i s)
  · rfl

/-- The outcome of a request, the toggle apart, does not depend on the toggle (10_state.md R30). -/
theorem exec_forgetToggle :
    seenThrough forgetToggle (exec i (forgetToggle s)) = seenThrough forgetToggle (exec i s) := by
  have hguard : requestGuard i (forgetToggle s) = requestGuard i s := requestGuard_setToggle i _ s
  rw [exec_eq, exec_eq, runRequest, runRequest, forgetToggle_fault, hguard]
  cases s.fault with
  | some r => rfl
  | none =>
    cases requestGuard i s with
    | some r => rfl
    | none => exact requestBody_forgetToggle i s

/-- The outcome of a step, the toggle apart, does not depend on the toggle (10_state.md R30). -/
theorem step_forgetToggle : seenThrough forgetToggle (step (forgetToggle s)) = seenThrough forgetToggle (step s) := by
  cases hf : s.fault with
  | some r => rw [step_of_fault hf, step_of_fault (s := forgetToggle s) hf]
  | none =>
    have hf' : (forgetToggle s).fault = none := hf
    cases hd : decode s.input with
    | request i rest =>
      rw [step_of_request hf hd, step_of_request hf' hd]
      exact exec_forgetToggle i (setInput rest s)
    | illegal op rest =>
      rw [step_of_illegal hf hd, step_of_illegal hf' hd]
      rfl
    | truncated op => rw [step_of_truncated hf hd, step_of_truncated hf' hd]
    | empty => rw [step_of_empty hf hd, step_of_empty hf' hd]

end Ghost

end Sys2Proof.Machine
end

section
/-! The statements of 10_state.md, settled from the laws above. -/

namespace Sys2Proof.Machine

/-- Settles O54: events, result, guard and the other fields of a request do not mention the toggle. -/
theorem toggleIsGhostState : Obligations.ToggleIsGhostState :=
  ⟨fun i s => (exec_forgetToggle i s).symm, fun s => (step_forgetToggle s).symm⟩

/-- Settles O12: the guard of a ready handle passes, and the body of the request stops at the undefined shadow. -/
theorem undefinedShadowIsNotRead : Obligations.UndefinedShadowIsNotRead := by
  rintro s ⟨hfault, hinit⟩
  refine ⟨fun i hi hundef => ?_, fun i hi hundef => ?_⟩
  · have hread : readsDefined i s = false := by simp [readsDefined_of_display hi, hundef]
    exact exec_of_undefined hfault (requestGuard_of_shadow_request hinit (.inl hi)) hread
  · have hread : readsDefined i s = false := by simp [readsDefined_of_entry hi, hundef]
    exact exec_of_undefined hfault (requestGuard_of_shadow_request hinit (.inr hi)) hread

/-! ## Construction -/

/-- Settles O14: the fields of `State.construct` are those of the reset table. -/
theorem constructionState : Obligations.ConstructionState := by
  intro P f a r
  exact ⟨rfl, rfl, rfl, rfl, rfl, rfl, rfl, rfl, rfl, rfl, rfl, rfl, rfl, rfl, rfl⟩

/-- A row count is a configuration exactly when it is that of a `Rows` (10_state.md R23). -/
theorem rowsOfCount_eq_some_iff {n : Nat} {r : Rows} : rowsOfCount n = some r ↔ r.count = n := by
  unfold rowsOfCount
  split <;> cases r <;> simp_all [Rows.count] <;> omega

/-- The row counts are 1 to 4 (00_scope.md R6). -/
theorem rowsOfCount_eq_none_iff {n : Nat} : rowsOfCount n = none ↔ n < 1 ∨ 4 < n := by
  unfold rowsOfCount
  split <;> simp_all
  omega

/-- Settles O15: `rowsOfCount` refuses the row count, the other two conditions refuse the address and the
parameters. -/
theorem constructionRefusesIllegalConfigurations : Obligations.ConstructionRefusesIllegalConfigurations := by
  intro P f addr rows
  cases hrows : rowsOfCount rows with
  | none =>
    have hout := rowsOfCount_eq_none_iff.mp hrows
    exact ⟨fun _ => by simp [constructHandle, hrows], fun h1 h4 => by omega⟩
  | some r =>
    have hcount := rowsOfCount_eq_some_iff.mp hrows
    have hin : ¬ (rows < 1 ∨ 4 < rows) := mt rowsOfCount_eq_none_iff.mpr (by simp [hrows])
    refine ⟨fun hbad => ?_, fun _ _ haddr hwf => ⟨r, hcount, by simp [constructHandle, hrows, haddr, hwf]⟩⟩
    have hrefused : ¬ (addr ≤ 127 ∧ P.wf = true) := by
      rintro ⟨haddr, hwf⟩
      simp only [hwf, Bool.true_eq_false, or_false] at hbad
      omega
    simp [constructHandle, hrows, hrefused]

/-- A new handle with well-formed parameters meets the invariant: nothing is emitted, defined or answered yet
(10_state.md R36). -/
theorem handleInv_construct {P : Params} (hwf : P.wf = true) (f : Family) (a : BusAddr) (r : Rows) :
    handleInv (State.construct P f a r) = true := by
  have hlife : lifecycleOk (State.construct P f a r) = true := rfl
  have hres : resultsOk (State.construct P f a r) = true := rfl
  simp only [handleInv, hlife, hres]
  simp [State.construct, hwf]

/-- The default parameters pass every check (30_encoding.md R83, R87, R88; 42_oled_backend.md R207). -/
theorem defaultParams_wf : defaultParams.wf = true := by decide

/-- Settles O55: `State.reset` is a construction with the default parameters, which are well formed. -/
theorem constructionMeetsTheInvariant : Obligations.ConstructionMeetsTheInvariant :=
  ⟨fun _ f a r hwf => handleInv_construct hwf f a r,
    handleInv_construct defaultParams_wf resetFamily resetAddr resetRows⟩

/-! ## Every request and every step -/

/-- The configuration and the parameters of two handles are the same. -/
def SameConfiguration (s t : State) : Prop :=
  t.family = s.family ∧ t.addr = s.addr ∧ t.rows = s.rows ∧ t.params = s.params

/-- No request writes the configuration or the parameters (10_state.md R22; 20_memory.md R61). -/
theorem exec_sameConfiguration {i : Instr} {s t : State} (h : exec i s = .next t) : SameConfiguration s t := by
  obtain ⟨-, ⟨r, -, rfl⟩ | ⟨-, -, rfl⟩⟩ := exec_next h
  · exact ⟨rfl, rfl, rfl, rfl⟩
  · simp [SameConfiguration]

/-- No step writes the configuration or the parameters (10_state.md R22; 20_memory.md R61). -/
theorem step_sameConfiguration {s t : State} (h : step s = .next t) : SameConfiguration s t := by
  obtain ⟨-, ⟨i, rest, -, hexec⟩ | ⟨op, rest, -, rfl⟩⟩ := step_next h
  · have hkeep : SameConfiguration (setInput rest s) t := exec_sameConfiguration hexec
    exact hkeep
  · exact ⟨rfl, rfl, rfl, rfl⟩

/-- Settles O47, from the inversion of a request and of a step. -/
theorem configurationIsNeverWritten : Obligations.ConfigurationIsNeverWritten := by
  refine ⟨fun P f a r => ⟨rfl, rfl, rfl⟩, fun s t h => ?_⟩
  obtain hstep | ⟨i, hexec⟩ := h
  · exact step_sameConfiguration hstep
  · exact exec_sameConfiguration hexec

/-- Settles O48: a fault writes `S.fault` alone, and each field of a request that runs has its writers. -/
theorem onlyListedRequestsWriteEachField : Obligations.OnlyListedRequestsWriteEachField := by
  intro i s t h
  obtain ⟨-, ⟨r, -, rfl⟩ | ⟨hguard, -, rfl⟩⟩ := exec_next h
  · simp [afterFault, raiseFault]
  · refine ⟨afterRequest_input i s, fun hne => ?_, fun hne => ?_, fun hne => ?_, fun hne => ?_, fun hne => ?_,
      fun hne => ?_, fun hne => ?_⟩
    · rw [afterRequest_initialized] at hne ⊢
      exact (fieldsAfter_initialized i s).resolve_left hne
    · exact absurd (afterRequest_fault i s) hne
    · rw [afterRequest_backlight] at hne
      have hi := (fieldsAfter_backlight i s).resolve_left hne
      exact ⟨family_of_backlight_guard hguard hi, hi⟩
    · rw [afterRequest_entryMode] at hne
      exact (fieldsAfter_entryMode i s).resolve_left hne
    · rw [afterRequest_displayControl] at hne
      exact (fieldsAfter_displayControl i s).resolve_left hne
    · rw [afterRequest_functionSet] at hne
      exact (fieldsAfter_functionSet i s).resolve_left hne
    · obtain hkeep | ⟨hf, rfl⟩ | ⟨v, rfl⟩ := toggleAfter_cases i s
      · simp [hkeep, toggleOf] at hne
      · exact ⟨hf, .inl rfl⟩
      · exact ⟨family_of_bright_guard hguard, .inr ⟨v, rfl⟩⟩

/-- A request that answers a next state appends to the trace and adds one result, which is `Ok` exactly when no fault
is set (10_state.md R33; 60_exceptions.md R220). -/
theorem exec_appends {i : Instr} {s t : State} (h : exec i s = .next t) :
    s.trace <+: t.trace ∧ ∃ r : Result, t.results = s.results ++ [r] ∧ (isOk r = true ↔ t.fault = none) := by
  obtain ⟨hf, ⟨r, -, rfl⟩ | ⟨-, -, rfl⟩⟩ := exec_next h
  · exact ⟨List.prefix_rfl, .faulted r, rfl, by simp [isOk]⟩
  · refine ⟨?_, .ok (requestRet i), afterRequest_results i s, by simp [isOk, hf]⟩
    rw [afterRequest_trace]
    exact List.prefix_append s.trace (requestEvents i s)

/-- Settles O49: a step is a request or an `IllegalRequest`, which emits nothing. -/
theorem traceIsOnlyAppendedTo : Obligations.TraceIsOnlyAppendedTo := by
  intro s t h
  obtain ⟨-, ⟨i, rest, -, hexec⟩ | ⟨op, rest, -, rfl⟩⟩ := step_next h
  · simpa using exec_appends hexec
  · exact ⟨List.prefix_rfl, .faulted .illegalRequest, rfl, by simp [isOk]⟩

end Sys2Proof.Machine
end

section
/-! SUPPORT. What a request may put on its trace: the events of each list in `requestEvents` are of the four kinds of
`Emitted`, and a request that answers a next state has appended such events only (`exec_newEvents`). -/

namespace Sys2Proof.Machine

/-- The kinds of event a request emits: on LCD an expander byte, on OLED a command or a data byte after its mode-select
byte, and a wait of the family (20_memory.md R55; 30_encoding.md R86, R89; 70_reset_and_hazards.md R256). -/
inductive Emitted (s : State) : Event → Prop where
  /-- An expander byte (41_lcd_backend.md R162). -/
  | lcdByte (hf : s.family = .lcd) (nib : Nibble) (rs en bl : Bool) :
      Emitted s (.txn s.addr [lcdByte s.params.pin nib rs en bl])
  /-- A command byte (42_oled_backend.md R191). -/
  | oledCommand (hf : s.family = .oled) (c : Byte) : Emitted s (.txn s.addr [s.params.oledMode.cmdMode, c])
  /-- A data byte (42_oled_backend.md R192). -/
  | oledData (hf : s.family = .oled) (d : Byte) : Emitted s (.txn s.addr [s.params.oledMode.dataMode, d])
  /-- A wait (70_reset_and_hazards.md R256). -/
  | wait {us : Nat} (hw : waitOk s us = true) : Emitted s (.wait us)

/-! ## The event lists of the two protocols -/

section Lists

variable {s : State}

theorem emitted_lcdRawEvents (hf : s.family = .lcd) (bl : Bool) : ∀ e ∈ lcdRawEvents s bl, Emitted s e :=
  List.forall_mem_singleton.mpr (.lcdByte hf 0 false false bl)

theorem emitted_lcdStrobeEvents (hf : s.family = .lcd) (nib : Nibble) (rs : Bool) :
    ∀ e ∈ lcdStrobeEvents s nib rs, Emitted s e := by
  have hbyte (en : Bool) : ∀ e ∈ lcdWriteEvents s (lcdLineByte s nib rs en), Emitted s e :=
    List.forall_mem_singleton.mpr (.lcdByte hf nib rs en s.backlight)
  have hhold : Emitted s (.wait s.params.timing.tEnHold) := .wait (by simp [waitOk, hf])
  simp only [lcdStrobeEvents, List.forall_mem_append, List.forall_mem_singleton]
  exact ⟨⟨⟨⟨hbyte false, hbyte true⟩, hhold⟩, hbyte false⟩, hhold⟩

theorem emitted_oledCommandEvents (hf : s.family = .oled) (c : Byte) : ∀ e ∈ oledCommandEvents s c, Emitted s e := by
  have hwait : Emitted s (.wait s.params.timing.tOledCmd) := .wait (by simp [waitOk, hf])
  simp only [oledCommandEvents, List.forall_mem_cons, List.not_mem_nil, false_implies, implies_true, and_true]
  exact ⟨.oledCommand hf c, hwait⟩

theorem emitted_oledDataEvents (hf : s.family = .oled) (d : Byte) : ∀ e ∈ oledDataEvents s d, Emitted s e :=
  List.forall_mem_singleton.mpr (.oledData hf d)

/-- A logical byte on LCD is two strobes (41_lcd_backend.md R164). -/
theorem emitted_lcdSendEvents (hf : s.family = .lcd) (c : Byte) (rs : Bool) :
    ∀ e ∈ lcdSendEvents s c rs, Emitted s e :=
  List.forall_mem_append.mpr ⟨emitted_lcdStrobeEvents hf (hiNibble c) rs, emitted_lcdStrobeEvents hf (loNibble c) rs⟩

/-- The LCD power-up steps (41_lcd_backend.md R171 to R174). -/
theorem emitted_lcdPowerUpEvents (hf : s.family = .lcd) : ∀ e ∈ lcdPowerUpEvents s, Emitted s e := by
  have hpower : Emitted s (.wait s.params.timing.tPowerup) := .wait (by simp [waitOk, hf])
  have hsettle : Emitted s (.wait s.params.timing.tBlSettle) := .wait (by simp [waitOk, hf])
  have hwait : Emitted s (.wait s.params.timing.tSync) := .wait (by simp [waitOk, hf])
  have hstrobe (nib : Nibble) := emitted_lcdStrobeEvents hf nib false
  have hsync : ∀ e ∈ lcdSyncEvents s, Emitted s e :=
    List.forall_mem_append.mpr ⟨hstrobe _, List.forall_mem_singleton.mpr hwait⟩
  simp only [lcdPowerUpEvents, List.forall_mem_append, List.forall_mem_singleton]
  exact ⟨⟨⟨⟨hpower, emitted_lcdRawEvents hf s.backlight⟩, hsettle⟩, ⟨hsync, hsync⟩, hsync⟩, hstrobe _⟩

theorem emitted_entryEvents (hf : s.family = .oled) (entry : SeqEntry) : ∀ e ∈ entryEvents s entry, Emitted s e :=
  match entry with
  | .cmd b _ => emitted_oledCommandEvents hf b
  | .dat b => emitted_oledDataEvents hf b

/-- An OLED sequence (42_oled_backend.md R196). -/
theorem emitted_seqEvents (hf : s.family = .oled) (q : List SeqEntry) :
    ∀ e ∈ q.flatMap (entryEvents s), Emitted s e := by
  intro e he
  obtain ⟨entry, -, hentry⟩ := List.mem_flatMap.mp he
  exact emitted_entryEvents hf entry e hentry

end Lists

/-! ## The event lists of both families -/

section Both

variable (s : State)

theorem emitted_commandEvents (c : Byte) : ∀ e ∈ commandEvents s c, Emitted s e := by
  unfold commandEvents
  cases hf : s.family with
  | lcd => exact emitted_lcdSendEvents hf c false
  | oled => exact emitted_oledCommandEvents hf c

theorem emitted_dataEvents (d : Byte) : ∀ e ∈ dataEvents s d, Emitted s e := by
  unfold dataEvents
  cases hf : s.family with
  | lcd => exact emitted_lcdSendEvents hf d true
  | oled => exact emitted_oledDataEvents hf d

theorem emitted_clearEvents : ∀ e ∈ clearEvents s, Emitted s e := by
  have hwait : Emitted s (.wait s.params.timing.tClear) := .wait (by cases hf : s.family <;> simp [waitOk, hf])
  exact List.forall_mem_append.mpr ⟨emitted_commandEvents s _, List.forall_mem_singleton.mpr hwait⟩

theorem emitted_shadowEvents : ∀ e ∈ shadowEvents s, Emitted s e := by
  simp only [shadowEvents, List.forall_mem_append]
  exact ⟨⟨emitted_commandEvents s _, emitted_commandEvents s _⟩, emitted_commandEvents s _⟩

theorem emitted_oledTailEvents : ∀ e ∈ oledTailEvents s, Emitted s e := by
  unfold oledTailEvents
  split
  · exact emitted_shadowEvents s
  · simp

theorem emitted_initHeadEvents : ∀ e ∈ initHeadEvents s, Emitted s e := by
  unfold initHeadEvents
  cases hf : s.family with
  | lcd => exact List.forall_mem_append.mpr ⟨emitted_lcdPowerUpEvents hf, emitted_shadowEvents s⟩
  | oled => exact List.forall_mem_append.mpr ⟨emitted_seqEvents hf _, emitted_oledTailEvents s⟩

/-- A read-modify-write emits one command, or nothing where there is no shadow to read. -/
theorem emitted_elim_commandEvents {α : Type} (shadow : Option α) (code : α → Byte) :
    ∀ e ∈ shadow.elim [] fun x => commandEvents s (code x), Emitted s e := by
  cases shadow with
  | none => simp
  | some x => exact emitted_commandEvents s (code x)

end Both

/-- The events of a request its guard passes; the guard keeps the two requests of one family each to that family
(60_exceptions.md R224). -/
theorem emitted_requestEvents {i : Instr} {s : State} (hg : requestGuard i s = none) :
    ∀ e ∈ requestEvents i s, Emitted s e := by
  cases i
  case init =>
    simp only [requestEvents, List.forall_mem_append]
    exact ⟨⟨emitted_initHeadEvents s, emitted_clearEvents s⟩, emitted_commandEvents s _⟩
  case clear => exact emitted_clearEvents s
  case home | move | shcurl | shcurr | shdispl | shdispr => exact emitted_commandEvents s _
  case dispoff | dispon | cursoroff | cursoron | blinkoff | blinkon | textrtl | textltr | autoshiftoff | autoshifton =>
    exact emitted_elim_commandEvents s _ _
  case backlightoff => exact emitted_lcdRawEvents (family_of_backlight_guard hg (.inl rfl)) false
  case backlighton => exact emitted_lcdRawEvents (family_of_backlight_guard hg (.inr rfl)) true
  case bright v => exact emitted_seqEvents (family_of_bright_guard hg) _
  case glyph =>
    refine List.forall_mem_append.mpr ⟨emitted_commandEvents s _, fun e he => ?_⟩
    obtain ⟨d, -, hd⟩ := List.mem_flatMap.mp he
    exact emitted_dataEvents s d e hd
  case write v => exact emitted_dataEvents s v

/-! ## The events a request adds -/

@[simp] theorem newEvents_raiseFault (r : FaultReason) (s : State) : newEvents s (raiseFault r s) = [] := by
  simp [newEvents]

@[simp] theorem newEvents_afterRequest (i : Instr) (s : State) :
    newEvents s (afterRequest i s) = requestEvents i s := by
  simp [newEvents]

/-- A request that answers a next state appends its new events, and each is of a kind its family emits
(10_state.md R33; 20_memory.md R52, R55). -/
theorem exec_newEvents {i : Instr} {s t : State} (h : exec i s = .next t) :
    t.trace = s.trace ++ newEvents s t ∧ ∀ e ∈ newEvents s t, Emitted s e := by
  obtain ⟨-, ⟨r, -, rfl⟩ | ⟨hg, -, rfl⟩⟩ := exec_next h
  · simp
  · simpa using emitted_requestEvents hg

/-- A transaction that a request emits names `S.addr` and has its family's width (20_memory.md R52, R55). -/
theorem Emitted.addressed {s : State} {a : BusAddr} {bs : List Byte} (h : Emitted s (.txn a bs)) :
    a = s.addr ∧ bs.length = (match s.family with | .lcd => 1 | .oled => 2) := by
  cases h with
  | lcdByte hf nib rs en bl => simp [hf]
  | oledCommand hf c => simp [hf]
  | oledData hf d => simp [hf]

/-- The calls of two traces in a row (20_memory.md R59). -/
theorem traceCalls_append (es es' : List Event) : traceCalls (es ++ es') = traceCalls es ++ traceCalls es' :=
  List.flatMap_append

/-! ## An emitted event is one the handle may emit -/

/-- Bit `k` of an expander line is set at the line's own position only (30_encoding.md R86). -/
theorem getLsbD_lineBit {k : Nat} (hk : k < 8) (b : Bool) (pos : Nat) :
    (lineBit b pos).getLsbD k = (b && decide (k = pos)) := by
  cases b with
  | false => simp [lineBit]
  | true =>
    rw [Bool.eq_iff_iff]
    simp only [lineBit, if_true, BitVec.getLsbD_shiftLeft, BitVec.getLsbD_one, hk, decide_true,
      Bool.true_and, Bool.and_eq_true, Bool.not_eq_true', decide_eq_false_iff_not, decide_eq_true_eq]
    omega

/-- With a legal `PIN` every expander byte has RW low: no other line shares its bit (30_encoding.md R86, R87). -/
theorem lcdByte_rwLine_low {P : Pin} (hpin : pinCheck P = true) (nib : Nibble) (rs en bl : Bool) :
    (lcdByte P nib rs en bl).getLsbD P.rwLine = false := by
  obtain ⟨hdistinct, hrange⟩ : (pinPositions P).Nodup ∧ ∀ n ∈ pinPositions P, n < 8 := by
    simpa [pinCheck] using hpin
  have hrw : P.rwLine < 8 := hrange _ (by simp [pinPositions])
  simp only [pinPositions, List.nodup_cons, List.mem_cons, List.not_mem_nil, or_false, not_or] at hdistinct
  obtain ⟨⟨hrs, -⟩, ⟨hen, hbl, hd4, hd5, hd6, hd7⟩, -⟩ := hdistinct
  simp [lcdByte, getLsbD_lineBit hrw, Ne.symm hrs, hen, hbl, hd4, hd5, hd6, hd7]

/-- With a legal `PIN` an emitted event has the address, the shape and the waits of its handle
(20_memory.md R52, R55; 30_encoding.md R86, R89; 70_reset_and_hazards.md R256). -/
theorem Emitted.eventOk {s : State} (hpin : pinCheck s.params.pin = true) {e : Event} (h : Emitted s e) :
    Machine.eventOk s e = true := by
  cases h with
  | lcdByte hf nib rs en bl => simp [Machine.eventOk, payloadOk, hf, lcdByte_rwLine_low hpin]
  | oledCommand hf c => simp [Machine.eventOk, payloadOk, hf]
  | oledData hf d => simp [Machine.eventOk, payloadOk, hf]
  | wait hw => exact hw

end Sys2Proof.Machine
end

section
/-! SUPPORT. The invariant of a handle as a conjunction, and each conjunct after a fault and after a request that
runs. -/

namespace Sys2Proof.Machine

/-! ## The sequences that well-formed parameters allow -/

section Sequences

variable {P : Params}

/-- Well-formed parameters have a legal `PIN` (30_encoding.md R87). -/
theorem pinCheck_of_wf (hwf : P.wf = true) : pinCheck P.pin = true := by
  simp only [Params.wf, Bool.and_eq_true] at hwf
  obtain ⟨⟨⟨⟨-, hpin⟩, -⟩, -⟩, -⟩ := hwf
  exact hpin

/-- The replay of a sequence that passes check 2 ends at rest, whatever the toggle before it
(42_oled_backend.md R197, R207). -/
theorem replayTags_of_toggleCheck {q : List SeqEntry} (hq : toggleCheck q = true) (t : Toggle) :
    replayTags t q = (some false, some false) := by
  simp only [toggleCheck, Bool.and_eq_true, beq_iff_eq] at hq
  exact replayTags_settled hq.1 t

/-- The sequence of INIT leaves the toggle at rest (42_oled_backend.md R197, R207). -/
theorem replayTags_initSeqOf (hwf : P.wf = true) (rows : Rows) (t : Toggle) :
    replayTags t (initSeqOf P.oledInitSeq rows) = (some false, some false) := by
  simp only [Params.wf, Bool.and_eq_true, oledInitSeqCheck, initSeqCheck] at hwf
  obtain ⟨⟨-, ⟨⟨⟨-, h1, -⟩, h2, -⟩, h3, -⟩, h4, -⟩, -⟩ := hwf
  cases rows
  case one => exact replayTags_of_toggleCheck h1 t
  case two => exact replayTags_of_toggleCheck h2 t
  case three => exact replayTags_of_toggleCheck h3 t
  case four => exact replayTags_of_toggleCheck h4 t

/-- The tag of a brightness entry does not depend on the value (42_oled_backend.md R206). -/
theorem applyEntry_brightEntryAt (t : Toggle) (v w : Byte) (b : BrightEntry) :
    applyEntry t (brightEntryAt v b) = applyEntry t (brightEntryAt w b) := by
  cases b <;> rfl

/-- The tags of the brightness sequence do not depend on the value (42_oled_backend.md R206). -/
theorem replayTags_brightSeqOf_congr (q : List BrightEntry) (v w : Byte) (t : Toggle) :
    replayTags t (brightSeqOf q v) = replayTags t (brightSeqOf q w) := by
  simp only [replayTags, brightSeqOf, List.foldl_map, applyEntry_brightEntryAt _ v w]

/-- The sequence of BRIGHT leaves the toggle at rest (42_oled_backend.md R197, R207). -/
theorem replayTags_brightSeqOf (hwf : P.wf = true) (v : Byte) (t : Toggle) :
    replayTags t (brightSeqOf P.oledBrightSeq v) = (some false, some false) := by
  simp only [Params.wf, Bool.and_eq_true, oledBrightSeqCheck] at hwf
  obtain ⟨-, -, hcheck⟩ := hwf
  rw [replayTags_brightSeqOf_congr _ v 0]
  exact replayTags_of_toggleCheck hcheck t

end Sequences

/-! ## The lifecycle -/

section Lifecycle

variable {i : Instr} {s : State}

/-- The guard passes INIT on a new handle only (60_exceptions.md R223). -/
theorem not_initialized_of_init_guard (hg : requestGuard .init s = none) : s.initialized = false := by
  obtain ⟨hinit, -, -⟩ := requestGuard_eq_none_iff.mp hg
  simpa [guardInitialized] using hinit

/-- The guard passes every other request on an initialised handle only (60_exceptions.md R221). -/
theorem initialized_of_guard (hg : requestGuard i s = none) (hi : i ≠ .init) : s.initialized = true := by
  obtain ⟨hinit, -, -⟩ := requestGuard_eq_none_iff.mp hg
  cases i
  case init => exact absurd rfl hi
  all_goals simpa [guardInitialized] using hinit

/-- What INIT defines (70_reset_and_hazards.md R251): the shadows, the toggle at rest, and the backlight on OLED. -/
structure InitDefined (s : State) : Prop where
  entryMode : s.entryMode.isSome = true
  displayControl : s.displayControl.isSome = true
  functionSet : s.functionSet = some (initFunctionSet s.rows)
  toggle : toggleOf s = restingToggle s.family
  backlight : s.family = .lcd ∨ s.backlight = true

theorem lifecycleOk_of_initialized (hinit : s.initialized = true) : lifecycleOk s = true ↔ InitDefined s := by
  simp only [lifecycleOk, hinit, if_true, Bool.and_eq_true, Bool.or_eq_true, beq_iff_eq]
  exact ⟨fun ⟨⟨⟨⟨hem, hdc⟩, hfs⟩, htog⟩, hbl⟩ => ⟨hem, hdc, hfs, htog, hbl⟩,
    fun ⟨hem, hdc, hfs, htog, hbl⟩ => ⟨⟨⟨⟨hem, hdc⟩, hfs⟩, htog⟩, hbl⟩⟩

/-- A new handle has an unknown toggle and the backlight on (10_state.md R36). -/
theorem toggle_backlight_of_not_initialized (hinit : s.initialized = false) (hlife : lifecycleOk s = true) :
    toggleOf s = (none, none) ∧ s.backlight = true := by
  simp only [lifecycleOk, hinit, Bool.false_eq_true, if_false, Bool.and_eq_true, beq_iff_eq] at hlife
  obtain ⟨⟨⟨-, htog⟩, hbl⟩, -⟩ := hlife
  exact ⟨htog, hbl⟩

@[simp] theorem toggleOf_afterRequest (i : Instr) (s : State) : toggleOf (afterRequest i s) = toggleAfter i s := by
  simp [toggleOf]

/-- INIT on a new handle leaves the toggle at rest: unknown on LCD, 0,0 on OLED (42_oled_backend.md R197). -/
theorem toggleAfterInit_at_rest (hwf : s.params.wf = true) (htog : toggleOf s = (none, none)) :
    toggleAfterInit s = restingToggle s.family := by
  unfold toggleAfterInit
  cases s.family with
  | lcd => exact htog
  | oled => exact replayTags_initSeqOf hwf s.rows (toggleOf s)

/-- INIT defines its fields on a new handle (70_reset_and_hazards.md R251; 42_oled_backend.md R197). -/
theorem initDefined_afterRequest_init (hwf : s.params.wf = true) (htog : toggleOf s = (none, none))
    (hbl : s.backlight = true) : InitDefined (afterRequest .init s) where
  entryMode := by simp [fieldsAfter, storeShadows]
  displayControl := by simp [fieldsAfter, storeShadows]
  functionSet := by simp [fieldsAfter, storeShadows]
  toggle := by
    rw [toggleOf_afterRequest, afterRequest_family]
    exact toggleAfterInit_at_rest hwf htog
  backlight := by simp [fieldsAfter, storeShadows, hbl]

/-- The toggle stays at rest: BRIGHT alone moves it, and puts it back (42_oled_backend.md R197). -/
theorem toggleAfter_at_rest (hwf : s.params.wf = true) (hg : requestGuard i s = none) (hi : i ≠ .init)
    (htog : toggleOf s = restingToggle s.family) : toggleAfter i s = restingToggle s.family := by
  obtain hkeep | ⟨-, rfl⟩ | ⟨v, rfl⟩ := toggleAfter_cases i s
  · rw [hkeep, htog]
  · exact absurd rfl hi
  · rw [family_of_bright_guard hg]
    exact replayTags_brightSeqOf hwf v (toggleOf s)

/-- No request undefines the entry-mode shadow (10_state.md R27). -/
theorem fieldsAfter_entryMode_isSome (hem : s.entryMode.isSome = true) :
    (fieldsAfter i s).entryMode.isSome = true := by
  obtain hkeep | rfl | hreq := fieldsAfter_entryMode i s
  · rw [hkeep, hem]
  · rfl
  · cases i <;> cases hreq <;> simpa [fieldsAfter] using hem

/-- No request undefines the display-control shadow (10_state.md R28). -/
theorem fieldsAfter_displayControl_isSome (hdc : s.displayControl.isSome = true) :
    (fieldsAfter i s).displayControl.isSome = true := by
  obtain hkeep | rfl | hreq := fieldsAfter_displayControl i s
  · rw [hkeep, hdc]
  · rfl
  · cases i <;> cases hreq <;> simpa [fieldsAfter] using hdc

/-- A request after INIT keeps what INIT defined. -/
theorem InitDefined.afterRequest (h : InitDefined s) (hwf : s.params.wf = true) (hg : requestGuard i s = none)
    (hi : i ≠ .init) : InitDefined (afterRequest i s) where
  entryMode := fieldsAfter_entryMode_isSome h.entryMode
  displayControl := fieldsAfter_displayControl_isSome h.displayControl
  functionSet := by simpa [(fieldsAfter_functionSet i s).resolve_right hi] using h.functionSet
  toggle := by simpa using toggleAfter_at_rest hwf hg hi h.toggle
  backlight := by
    obtain hkeep | hpanel := fieldsAfter_backlight i s
    · simpa [hkeep] using h.backlight
    · exact .inl (by simpa using family_of_backlight_guard hg hpanel)

/-- A request that runs keeps the lifecycle (70_reset_and_hazards.md R251). -/
theorem lifecycleOk_afterRequest (hwf : s.params.wf = true) (hg : requestGuard i s = none)
    (hlife : lifecycleOk s = true) : lifecycleOk (afterRequest i s) = true := by
  by_cases hi : i = .init
  · subst hi
    obtain ⟨htog, hbl⟩ := toggle_backlight_of_not_initialized (not_initialized_of_init_guard hg) hlife
    exact (lifecycleOk_of_initialized rfl).mpr (initDefined_afterRequest_init hwf htog hbl)
  · have hinit := initialized_of_guard hg hi
    have hinit' : (afterRequest i s).initialized = true := by
      obtain hkeep | ⟨rfl, -⟩ := fieldsAfter_initialized i s
      · rw [afterRequest_initialized, hkeep, hinit]
      · exact absurd rfl hi
    have hdef := (lifecycleOk_of_initialized hinit).mp hlife
    exact (lifecycleOk_of_initialized hinit').mpr (hdef.afterRequest hwf hg hi)

end Lifecycle

/-! ## The results and the invariant -/

section Invariant

variable {i : Instr} {s t : State}

theorem resultsOk_of_no_fault (hf : s.fault = none) : resultsOk s = s.results.all isOk := by
  simp [resultsOk, hf]

/-- A fault is the last result, after results that are all `Ok` (60_exceptions.md R220). -/
theorem resultsOk_raiseFault (r : FaultReason) (hf : s.fault = none) (hres : resultsOk s = true) :
    resultsOk (raiseFault r s) = true := by
  rw [resultsOk_of_no_fault hf] at hres
  simpa [resultsOk] using hres

/-- A request that runs adds an `Ok` (60_exceptions.md R220). -/
theorem resultsOk_afterRequest (i : Instr) (hf : s.fault = none) (hres : resultsOk s = true) :
    resultsOk (afterRequest i s) = true := by
  rw [resultsOk_of_no_fault hf] at hres
  have hf' : (afterRequest i s).fault = none := by rw [afterRequest_fault, hf]
  rw [resultsOk_of_no_fault hf', afterRequest_results, List.all_append, hres]
  rfl

theorem handleInv_iff : handleInv s = true ↔
    s.params.wf = true ∧ (∀ e ∈ s.trace, eventOk s e = true) ∧ lifecycleOk s = true ∧ resultsOk s = true := by
  simp only [handleInv, Bool.and_eq_true, List.all_eq_true, and_assoc]

/-- What a handle may emit depends on its configuration and parameters only. -/
theorem eventOk_congr (h : SameConfiguration s t) (e : Event) : eventOk t e = eventOk s e := by
  obtain ⟨hfam, haddr, -, hparams⟩ := h
  cases e with
  | txn a bs => simp only [eventOk, payloadOk, hfam, haddr, hparams]
  | wait us => simp only [eventOk, waitOk, hfam, hparams]

/-- A fault keeps the invariant: it writes the fault and the result only (60_exceptions.md R220). -/
theorem handleInv_raiseFault (r : FaultReason) (hf : s.fault = none) (hinv : handleInv s = true) :
    handleInv (raiseFault r s) = true := by
  obtain ⟨hwf, htrace, hlife, hres⟩ := handleInv_iff.mp hinv
  exact handleInv_iff.mpr ⟨hwf, htrace, hlife, resultsOk_raiseFault r hf hres⟩

/-- A request that runs keeps the invariant, conjunct by conjunct. -/
theorem handleInv_afterRequest (hf : s.fault = none) (hg : requestGuard i s = none) (hinv : handleInv s = true) :
    handleInv (afterRequest i s) = true := by
  obtain ⟨hwf, htrace, hlife, hres⟩ := handleInv_iff.mp hinv
  have hnew : ∀ e ∈ requestEvents i s, eventOk s e = true := fun e he =>
    (emitted_requestEvents hg e he).eventOk (pinCheck_of_wf hwf)
  have htrace' : ∀ e ∈ (afterRequest i s).trace, eventOk (afterRequest i s) e = true := by
    have hconf : SameConfiguration s (afterRequest i s) := by simp [SameConfiguration]
    simp only [eventOk_congr hconf, afterRequest_trace, List.forall_mem_append]
    exact ⟨htrace, hnew⟩
  have hwf' : (afterRequest i s).params.wf = true := by rw [afterRequest_params, hwf]
  exact handleInv_iff.mpr
    ⟨hwf', htrace', lifecycleOk_afterRequest hwf hg hlife, resultsOk_afterRequest i hf hres⟩

/-- A request that answers a next state keeps the invariant. -/
theorem exec_keeps_handleInv (hinv : handleInv s = true) (h : exec i s = .next t) : handleInv t = true := by
  obtain ⟨hf, ⟨r, -, rfl⟩ | ⟨hg, -, rfl⟩⟩ := exec_next h
  · exact handleInv_raiseFault r hf hinv
  · exact handleInv_afterRequest hf hg hinv

/-- The invariant does not speak of the bytes not yet taken. -/
@[simp] theorem handleInv_setInput (rest : List Byte) (s : State) : handleInv (setInput rest s) = handleInv s := rfl

end Invariant

end Sys2Proof.Machine
end

section
/-! The statements of 20_memory.md, settled from the laws above. -/

namespace Sys2Proof.Machine

/-- Settles O56: a step runs a request or raises `IllegalRequest`, and both keep the invariant. -/
theorem stepKeepsTheInvariant : Obligations.StepKeepsTheInvariant := by
  intro s t hinv h
  obtain ⟨hf, ⟨i, rest, -, hexec⟩ | ⟨op, rest, -, rfl⟩⟩ := step_next h
  · exact exec_keeps_handleInv (s := setInput rest s) hinv hexec
  · exact handleInv_raiseFault (s := setInput rest s) .illegalRequest hf hinv

/-- Settles O50: every new event is of a kind its family emits, and the calls of a trace follow its events. -/
theorem newTransactionsAreAddressedAndFramed : Obligations.NewTransactionsAreAddressedAndFramed := by
  intro i s t h
  obtain ⟨htrace, hnew⟩ := exec_newEvents h
  refine ⟨fun a bs hmem => ?_, by rw [← traceCalls_append, ← htrace]⟩
  obtain ⟨rfl, hwidth⟩ := (hnew _ hmem).addressed
  exact ⟨rfl, hwidth, rfl⟩

end Sys2Proof.Machine
end

section
/-! SUPPORT. The decoder's laws: what the bytes are that it answers so, and the round trip with the encoder
(30_encoding.md R71 to R77). -/

namespace Sys2Proof

/-- The opcodes of the map, in its order (30_encoding.md R73). -/
def listedOpcodes : List Nat :=
  [0x01, 0x02, 0x03, 0x04, 0x10, 0x11, 0x12, 0x13, 0x14, 0x15, 0x20, 0x21, 0x22, 0x23, 0x30, 0x31, 0x32, 0x33,
   0x40, 0x41, 0x50, 0x60, 0x70]

/-- An opcode has no format exactly when the map does not list it (30_encoding.md R73, R75). -/
theorem opcodeFormat_eq_none_iff {op : Byte} : opcodeFormat op = none ↔ op.toNat ∉ listedOpcodes := by
  unfold opcodeFormat
  split <;> simp_all [listedOpcodes]

/-- What the bytes `op :: args` are when the decoder answers so (30_encoding.md R77). -/
inductive DecodedAs (op : Byte) (args : List Byte) : Decoded → Prop where
  /-- They begin with the bytes of the request, as many as the opcode's format asks for (R71, R73). -/
  | request {i : Instr} {rest : List Byte} {f : Format} (hop : opcodeFormat op = some f)
      (hlength : (encode i).length = formatLength f) (hbs : op :: args = encode i ++ rest) :
      DecodedAs op args (.request i rest)
  /-- The opcode is not listed (R75). -/
  | illegal (hop : opcodeFormat op = none) : DecodedAs op args (.illegal op args)
  /-- They are fewer than the opcode's format asks for (R76). -/
  | truncated {f : Format} (hop : opcodeFormat op = some f) (hshort : (op :: args).length < formatLength f) :
      DecodedAs op args (.truncated op)

/-- A request of format N is its opcode (30_encoding.md R71). -/
theorem DecodedAs.of_opcode {op c : Byte} {i : Instr} {args : List Byte} (hi : encode i = [c])
    (hc : opcodeFormat c = some .n) (hop : op.toNat = c.toNat) : DecodedAs op args (.request i args) := by
  obtain rfl := BitVec.eq_of_toNat_eq hop
  exact .request hc (by rw [hi]; rfl) (by rw [hi]; rfl)

/-- The decoder answers what its bytes are (30_encoding.md R77). -/
theorem decodedAs_decode (op : Byte) (args : List Byte) : DecodedAs op args (decode (op :: args)) := by
  simp only [decode]
  split
  case h_4 hop =>
    obtain rfl : op = 0x04 := BitVec.eq_of_toNat_eq hop
    exact match args with
      | _ :: _ :: _ => .request (f := .rc) rfl rfl rfl
      | [] | [_] => .truncated (f := .rc) rfl (by simp [formatLength])
  case h_21 hop =>
    obtain rfl : op = 0x50 := BitVec.eq_of_toNat_eq hop
    exact match args with
      | _ :: _ => .request (f := .b) rfl rfl rfl
      | [] => .truncated (f := .b) rfl (by simp [formatLength])
  case h_22 hop =>
    obtain rfl : op = 0x60 := BitVec.eq_of_toNat_eq hop
    exact match args with
      | _ :: _ :: _ :: _ :: _ :: _ :: _ :: _ :: _ :: _ => .request (f := .g) rfl rfl rfl
      | [] | [_] | [_, _] | [_, _, _] | [_, _, _, _] | [_, _, _, _, _] | [_, _, _, _, _, _]
      | [_, _, _, _, _, _, _] | [_, _, _, _, _, _, _, _] => .truncated (f := .g) rfl (by simp [formatLength])
  case h_23 hop =>
    obtain rfl : op = 0x70 := BitVec.eq_of_toNat_eq hop
    exact match args with
      | _ :: _ => .request (f := .b) rfl rfl rfl
      | [] => .truncated (f := .b) rfl (by simp [formatLength])
  case h_24 => exact .illegal (opcodeFormat_eq_none_iff.mpr (by simp_all [listedOpcodes]))
  all_goals
    rename_i hop
    exact .of_opcode rfl rfl hop

/-- The decoder reads back every request, whatever follows it (30_encoding.md R71, R73, R74). -/
@[simp] theorem decode_encode_append (i : Instr) (rest : List Byte) : decode (encode i ++ rest) = .request i rest := by
  cases i <;> rfl

/-- A string that decodes to a request begins with the request's bytes (30_encoding.md R71, R73). -/
theorem eq_encode_append_of_decode {bs : List Byte} {i : Instr} {rest : List Byte}
    (hdecode : decode bs = .request i rest) : bs = encode i ++ rest := by
  cases bs with
  | nil => cases hdecode
  | cons op args =>
    have hfrom := decodedAs_decode op args
    rw [hdecode] at hfrom
    cases hfrom with
    | request _ _ hbs => exact hbs

open Laws.EncodingShape in
/-- A request's bytes are a listed opcode and its operands, as many as the opcode's format asks for
(30_encoding.md R70, R71). -/
theorem encodingShape : ∀ i : Instr, Statement i
  | .init => init | .clear => clear | .home => home | .move row col => move row col
  | .dispoff => dispoff | .dispon => dispon | .cursoroff => cursoroff | .cursoron => cursoron
  | .blinkoff => blinkoff | .blinkon => blinkon
  | .shcurl => shcurl | .shcurr => shcurr | .shdispl => shdispl | .shdispr => shdispr
  | .textrtl => textrtl | .textltr => textltr | .autoshiftoff => autoshiftoff | .autoshifton => autoshifton
  | .backlightoff => backlightoff | .backlighton => backlighton | .bright v => bright v
  | .glyph idx m0 m1 m2 m3 m4 m5 m6 m7 => glyph idx m0 m1 m2 m3 m4 m5 m6 m7
  | .write v => write v

/-- The bytes of a table word that decodes to a request are the request's own (log 18). -/
theorem requestBytes_of_decodeTableWord {nbits w : Nat} {i : Instr} (h : decodeTableWord nbits w = some i) :
    requestBytes nbits w = encode i := by
  cases hdecode : decode (wordBytes nbits w) with
  | request j rest =>
    obtain rfl : j = i := by simpa [decodeTableWord, hdecode] using h
    simp [requestBytes, hdecode]
  | illegal | truncated | empty => simp [decodeTableWord, hdecode] at h

end Sys2Proof
end

section
/-! SUPPORT. The laws of the checks on `CMD`, of the nibbles and of the flags in a command byte
(30_encoding.md R81 to R84). -/

namespace Sys2Proof.Machine

/-! ## The checks on `CMD` -/

/-- Codes of which no two share a bit (30_encoding.md R83 check 1). -/
def PairwiseDisjoint (codes : List Byte) : Prop := codes.Pairwise fun m n => m &&& n = 0

section CmdCheck

variable {C : Cmd}

/-- The checks on `CMD`, as equations (30_encoding.md R83). -/
theorem cmdCheck_iff : cmdCheck C = true ↔
    cmdDisjoint C = true ∧ C.fset ||| C.fsetDl = 0x30 ∧ loNibble (C.fset ||| C.fsetDl) = 0 ∧ loNibble C.fset = 0 := by
  simp [cmdCheck, cmdSyncLiteral, cmdLowNibblesZero, and_assoc]

/-- With a well-formed `CMD` no two codes of one command share a bit. Entry mode has two flags; the zero code stands
for a third. -/
theorem pairwiseDisjoint_of_cmdCheck (h : cmdCheck C = true) :
    PairwiseDisjoint [C.dctl, C.dctlD, C.dctlC, C.dctlB] ∧ PairwiseDisjoint [C.entry, C.entryId, C.entrySh, 0] ∧
    PairwiseDisjoint [C.fset, C.fsetDl, C.fsetN, C.fsetF] := by
  obtain ⟨hdisjoint, -⟩ := cmdCheck_iff.mp h
  simp only [cmdDisjoint, disjointBits, Bool.and_eq_true, beq_iff_eq, and_assoc] at hdisjoint
  simp [PairwiseDisjoint, hdisjoint]

end CmdCheck

/-! ## Nibbles -/

/-- A byte whose low nibble is zero is its high nibble, shifted up (30_encoding.md R84, 41_lcd_backend.md R164). -/
theorem hiNibble_shiftLeft {c : Byte} (hlo : loNibble c = 0) : (hiNibble c).setWidth 8 <<< 4 = c := by
  have hmod : c.toNat % 16 = 0 := by simpa [loNibble] using congrArg BitVec.toNat hlo
  apply BitVec.eq_of_toNat_eq
  simp only [hiNibble, BitVec.toNat_shiftLeft, BitVec.toNat_setWidth, BitVec.extractLsb'_toNat, Nat.shiftLeft_eq,
    Nat.shiftRight_eq_div_pow]
  omega

/-! ## Flags -/

section Flags

variable {m n p a b c : Byte}

/-- A flag with a code is read back from it (30_encoding.md R81). -/
theorem flagBits_injective (hm : m ≠ 0) {f g : Bool} (h : flagBits f m = flagBits g m) : f = g := by
  cases f <;> cases g <;> simp_all [flagBits]

/-- A flag's own code masks nothing of it. -/
theorem flagBits_and_self (f : Bool) (m : Byte) : flagBits f m &&& m = flagBits f m := by
  cases f <;> simp [flagBits]

/-- A disjoint code masks all of a flag. -/
theorem flagBits_and_of_disjoint (h : m &&& n = 0) (f : Bool) : flagBits f m &&& n = 0 := by
  cases f with
  | false => exact BitVec.zero_and
  | true => exact h

/-- A command byte masked with a flag's code is that flag (30_encoding.md R81, R82, R83). -/
theorem command_and_codes (h : PairwiseDisjoint [p, a, b, c]) (x y z : Bool) :
    (p ||| (flagBits x a ||| flagBits y b ||| flagBits z c)) &&& a = flagBits x a ∧
    (p ||| (flagBits x a ||| flagBits y b ||| flagBits z c)) &&& b = flagBits y b ∧
    (p ||| (flagBits x a ||| flagBits y b ||| flagBits z c)) &&& c = flagBits z c := by
  obtain ⟨⟨hpa, hpb, hpc⟩, ⟨hab, hac⟩, hbc⟩ :
      (p &&& a = 0 ∧ p &&& b = 0 ∧ p &&& c = 0) ∧ (a &&& b = 0 ∧ a &&& c = 0) ∧ b &&& c = 0 := by
    simpa [PairwiseDisjoint] using h
  have hba : b &&& a = 0 := BitVec.and_comm b a ▸ hab
  have hca : c &&& a = 0 := BitVec.and_comm c a ▸ hac
  have hcb : c &&& b = 0 := BitVec.and_comm c b ▸ hbc
  simp [BitVec.and_or_distrib_right, flagBits_and_self, flagBits_and_of_disjoint, *]

/-- Equal command bytes carry equal flags, so far as the flags have codes (30_encoding.md R83 check 1). -/
theorem flags_eq_of_command_eq (h : PairwiseDisjoint [p, a, b, c]) {x y z x' y' z' : Bool}
    (heq : p ||| (flagBits x a ||| flagBits y b ||| flagBits z c) =
      p ||| (flagBits x' a ||| flagBits y' b ||| flagBits z' c)) :
    (a ≠ 0 → x = x') ∧ (b ≠ 0 → y = y') ∧ (c ≠ 0 → z = z') := by
  obtain ⟨ha, hb, hc⟩ := command_and_codes h x y z
  obtain ⟨ha', hb', hc'⟩ := command_and_codes h x' y' z'
  rw [heq] at ha hb hc
  exact ⟨fun hne => flagBits_injective hne (ha.symm.trans ha'), fun hne => flagBits_injective hne (hb.symm.trans hb'),
    fun hne => flagBits_injective hne (hc.symm.trans hc')⟩

/-- The entry-mode byte in the form of a command with three flags (30_encoding.md R82). -/
theorem cmdEntry_eq (C : Cmd) (em : EntryMode) :
    cmdEntry C em = C.entry ||| (flagBits em.id C.entryId ||| flagBits em.sh C.entrySh ||| flagBits false 0) := by
  simp [cmdEntry, entryModeFlags, flagBits]

end Flags

/-! ## Address commands -/

/-- The set-DDRAM byte is its code with the address's low byte (30_encoding.md R82). -/
theorem cmdSetDdram_eq (C : Cmd) (a : Nat) : cmdSetDdram C a = C.setDdram ||| BitVec.ofNat 8 a := by
  simp [cmdSetDdram, truncByte]

/-- Under a code with bit 7, an address's own bit 7 and above do not count (30_encoding.md R82). -/
theorem or_ofNat_mod_128 (a : Nat) : 0x80#8 ||| BitVec.ofNat 8 a = 0x80#8 ||| BitVec.ofNat 8 (a % 128) := by
  ext k hk
  simp only [← BitVec.getLsbD_eq_getElem, BitVec.getLsbD_or, BitVec.getLsbD_ofNat, Nat.testBit_mod_two_pow a 7 k]
  obtain rfl | hlow : k = 7 ∨ k < 7 := by omega
  · simp [Nat.testBit]
  · simp [hlow]

end Sys2Proof.Machine
end

section
/-! The statements of 30_encoding.md, settled from the laws above. -/

namespace Sys2Proof.Machine

/-! ## Decoding -/

/-- Settles O6: the decoder reads back what the encoder writes, and answers a request on nothing else. -/
theorem decodeAgreesWithEncode : Obligations.DecodeAgreesWithEncode := fun _ i rest =>
  ⟨eq_encode_append_of_decode, fun hbs => hbs ▸ decode_encode_append i rest⟩

/-- Settles O5: each answer of the decoder says which opcode and how many bytes it was read from. -/
theorem decodingIsTotalByFormat : Obligations.DecodingIsTotalByFormat := by
  refine ⟨rfl, fun op args => ?_⟩
  have hfrom := decodedAs_decode op args
  generalize decode (op :: args) = d at hfrom
  cases hfrom with
  | @request i rest f hop hlength hbs =>
    have hlong : ¬ (op :: args).length < formatLength f := by
      rw [hbs, List.length_append, hlength]
      omega
    simp only [hop, hlong, if_false]
    refine ⟨i, ?_, ?_⟩
    · rw [hbs, ← hlength, List.drop_left]
    · rw [hbs, ← hlength, List.take_left]
  | illegal hop => simp only [hop]
  | truncated hop hshort => simp only [hop, hshort, if_true]

section ByFormat

variable {op : Byte} {args : List Byte}

/-- An opcode the map does not list is illegal (30_encoding.md R75). -/
theorem decode_of_unlisted (hop : opcodeFormat op = none) : decode (op :: args) = .illegal op args := by
  simpa only [hop] using decodingIsTotalByFormat.2 op args

/-- A listed opcode with fewer bytes than its format asks for is a truncated request (30_encoding.md R76). -/
theorem decode_of_short {f : Format} (hop : opcodeFormat op = some f)
    (hshort : (op :: args).length < formatLength f) : decode (op :: args) = .truncated op := by
  simpa only [hop, hshort, if_true] using decodingIsTotalByFormat.2 op args

end ByFormat

/-- A proper part of a request's bytes, cut behind its opcode or later, is a truncated request (30_encoding.md R76). -/
theorem decode_take_encode {i : Instr} {k : Nat} (hpos : 0 < k) (hk : k < (encode i).length) :
    ∃ op, decode ((encode i).take k) = .truncated op := by
  obtain ⟨op, args, f, hencode, hop, hlength, -⟩ := encodingShape i
  obtain ⟨n, rfl⟩ := Nat.exists_eq_add_one.mpr hpos
  refine ⟨op, ?_⟩
  have hshort : (op :: args.take n).length < formatLength f := by
    simp only [← hlength, hencode, List.length_cons, List.length_take] at hk ⊢
    omega
  rw [hencode, List.take_succ_cons, decode_of_short hop hshort]

/-! ## Steps -/

/-- Settles O1: the step's own equation on a decoded request. -/
theorem stepRunsDecodedRequest : Obligations.StepRunsDecodedRequest := fun _ _ _ hfault hdecode =>
  step_of_request hfault hdecode

/-- Settles O2: an unlisted opcode decodes to itself, and the map lists `listedOpcodes`. -/
theorem illegalOpcodeFaults : Obligations.IllegalOpcodeFaults := by
  refine ⟨fun s op rest hfault hinput hop => ?_, by decide +kernel, rfl, rfl, fun op => ?_⟩
  · exact step_of_illegal hfault (hinput ▸ decode_of_unlisted hop)
  · rw [Ne, opcodeFormat_eq_none_iff, not_not]
    rfl

/-- Settles O3: the decoder says that the bytes are too few, or that there are none. -/
theorem truncatedRequestTakesNoStep : Obligations.TruncatedRequestTakesNoStep := by
  refine fun s hfault => ⟨fun op args f hinput hop hshort => ?_, fun hinput => ?_⟩
  · exact step_of_truncated hfault (hinput ▸ decode_of_short hop hshort)
  · exact step_of_empty hfault (hinput ▸ rfl)

/-- Settles O4: the part is a truncated request, and with the missing bytes it is the request's encoding again. -/
theorem truncatedRequestRunsWhenCompleted : Obligations.TruncatedRequestRunsWhenCompleted := by
  intro s i k hfault hpos hk hinput
  constructor
  · obtain ⟨op, hdecode⟩ := decode_take_encode hpos hk
    exact step_of_truncated hfault (hinput ▸ hdecode)
  · have hdecode : decode (deliver ((encode i).drop k) s).input = .request i [] := by
      simpa [deliver, hinput] using decode_encode_append i []
    exact step_of_request (s := deliver ((encode i).drop k) s) hfault hdecode

/-- Settles O8: the word's own bytes are placed, and the step takes just these. -/
theorem placedWordRunsNext : Obligations.PlacedWordRunsNext := by
  intro s nbits w i hfault hword
  have hdecode : decode (s.withFetchWord nbits w).input = .request i s.input := by
    simp [State.withFetchWord, placeRequest, requestBytes_of_decodeTableWord hword]
  exact step_of_request (s := s.withFetchWord nbits w) hfault hdecode

/-- Settles O7: each word, read by the decoder. -/
theorem wordsOfTheOpcodeMapDecode : Obligations.WordsOfTheOpcodeMapDecode :=
  ⟨rfl, rfl, rfl, rfl, rfl, rfl, rfl, rfl, rfl, rfl, rfl⟩

/-! ## Command bytes and parameters -/

/-- Settles O36: check 2 fixes the byte behind the first nibble, and check 3 says that no low nibble is lost. -/
theorem initNibbles : Obligations.InitNibbles := by
  refine ⟨fun C hcheck => ?_, rfl⟩
  obtain ⟨-, hsync, hlo, hlo'⟩ := cmdCheck_iff.mp hcheck
  exact ⟨by rw [nibSync, hsync]; rfl, hiNibble_shiftLeft hlo', hiNibble_shiftLeft hlo⟩

/-- Settles O44: the code's own bit 7 covers that of the address; the eight glyph bases are computed. -/
theorem addressCommandsUnderDefaultCodes : Obligations.AddressCommandsUnderDefaultCodes :=
  ⟨fun a => (cmdSetDdram_eq defaultCmd a).trans (or_ofNat_mod_128 a), by decide⟩

/-- Settles O46: each register's codes are disjoint, so its byte gives every flag back. -/
theorem shadowBytesAreInjective : Obligations.ShadowBytesAreInjective := by
  intro C hcheck
  obtain ⟨hdisplay, hentry, hfunction⟩ := pairwiseDisjoint_of_cmdCheck hcheck
  refine ⟨fun hD hC hB x y heq => ?_, fun hId hSh x y heq => ?_, fun hDl hN hF x y heq => ?_⟩
  · obtain ⟨hd, hc, hb⟩ := flags_eq_of_command_eq hdisplay heq
    cases x; cases y
    rw [DisplayControl.mk.injEq]
    exact ⟨hd hD, hc hC, hb hB⟩
  · rw [cmdEntry_eq, cmdEntry_eq] at heq
    obtain ⟨hid, hsh, -⟩ := flags_eq_of_command_eq hentry heq
    cases x; cases y
    rw [EntryMode.mk.injEq]
    exact ⟨hid hId, hsh hSh⟩
  · obtain ⟨hdl, hn, hf⟩ := flags_eq_of_command_eq hfunction heq
    cases x; cases y
    rw [FunctionSet.mk.injEq]
    exact ⟨hdl hDl, hn hN, hf hF⟩

/-- Settles O9: each boolean selects its request, and `PRINT` maps `WRITE` over its bytes. -/
theorem pseudoInstructionsExpand : Obligations.PseudoInstructionsExpand := by
  refine ⟨?_, ?_, ?_, fun _ _ => ⟨rfl, rfl⟩⟩
  all_goals
    intro b
    cases b <;> rfl

/-- Settles O16: the defaults pass, and each broken parameter meets the check it breaks. -/
theorem defaultParametersAreWellFormed : Obligations.DefaultParametersAreWellFormed :=
  ⟨defaultParams_wf, by decide, by decide, by decide, by decide⟩

/-- Settles O35: bit by bit, each line has one position. -/
theorem expanderByteUnderDefaultPins : Obligations.ExpanderByteUnderDefaultPins := by
  intro nib rs en bl
  ext k hk
  simp only [lcdByte, defaultPin, ← BitVec.getLsbD_eq_getElem, BitVec.getLsbD_or, getLsbD_lineBit hk]
  interval_cases k <;> simp

/-- Settles O45: the seven flags and the four bases are finitely many values. -/
theorem shadowBytesUnderDefaultCodes : Obligations.ShadowBytesUnderDefaultCodes :=
  ⟨by decide, by decide, by decide, rfl⟩

end Sys2Proof.Machine
end

section
/-! SUPPORT. The outcome of a request on a fresh and on a ready handle, as one equation each, with the laws of MOVE's
clamp and of the backlight line. -/

namespace Sys2Proof.Machine

/-! ## Requests on a fresh handle -/

section Fresh

variable {i : Instr} {s : State}

/-- Before INIT every other request raises `NotInitialized` (60_exceptions.md R221). -/
theorem exec_of_fresh (hs : Fresh s) (hi : i ≠ .init := by nofun) :
    exec i s = .next (afterFault s .notInitialized) := by
  obtain ⟨hf, hinit⟩ := hs
  have hg : requestGuard i s = some .notInitialized := by
    cases i
    case init => exact absurd rfl hi
    all_goals simp [requestGuard, guardInitialized, hinit]
  exact exec_of_guard_fault hf hg

/-- INIT runs on every fresh handle (40_command_surface.md R110). -/
theorem exec_init_of_fresh (hs : Fresh s) : exec .init s = .next (afterRequest .init s) := by
  obtain ⟨hf, hinit⟩ := hs
  have hg : requestGuard .init s = none :=
    requestGuard_eq_none_iff.mpr ⟨by simp [guardInitialized, hinit], rfl, rfl⟩
  exact exec_of_guard hf hg rfl

end Fresh

/-! ## Requests on a ready handle -/

section Ready

variable {i : Instr} {s : State}

/-- On a ready handle the guard of a request other than INIT is its family and operand checks
(60_exceptions.md R221). -/
theorem requestGuard_of_ready (hs : Ready s) (hi : i ≠ .init) :
    requestGuard i s = (guardFamily i s).or (guardOperand i) := by
  rw [requestGuard, guardInitialized_of_ne_init hs.2 hi]
  cases guardFamily i s <;> rfl

/-- On a ready handle a request that reads no undefined shadow and whose family and operand checks pass runs: what it
writes, its events and its result (40_command_surface.md R110 to R131). The conditions left to `rfl` are computed for
most requests. -/
theorem exec_of_ready {u : State} {es : List Event} {ret : Option Nat} (hs : Ready s) (hi : i ≠ .init := by nofun)
    (hread : readsDefined i s = true := by rfl) (hg : (guardFamily i s).or (guardOperand i) = none := by rfl)
    (hstate : setToggle (toggleAfter i s) (fieldsAfter i s) = u := by rfl) (hevents : requestEvents i s = es := by rfl)
    (hret : requestRet i = ret := by rfl) : exec i s = .next (afterOk u es ret) := by
  have hrun : exec i s = .next (afterRequest i s) :=
    exec_of_guard hs.1 ((requestGuard_of_ready hs hi).trans hg) hread
  have hafter : afterRequest i s = complete (requestRet i) (emit (requestEvents i s)
      (setToggle (toggleAfter i s) (fieldsAfter i s))) := rfl
  rw [hrun, hafter, hstate, hevents, hret]
  rfl

/-- On a ready handle a request whose family or operand check fails raises that fault
(60_exceptions.md R221, R224, R225). -/
theorem exec_of_ready_refused {r : FaultReason} (hs : Ready s)
    (hg : (guardFamily i s).or (guardOperand i) = some r) (hi : i ≠ .init := by nofun) :
    exec i s = .next (afterFault s r) :=
  exec_of_guard_fault hs.1 ((requestGuard_of_ready hs hi).trans hg)

/-- A display request on a ready handle writes its flag and sends the whole byte (40_command_surface.md R115). -/
theorem exec_display_of_ready {dc : DisplayControl} (hs : Ready s) (hi : isDisplayRequest i = true)
    (hdc : s.displayControl = some dc) :
    exec i s = .next (afterOk (setDisplayControl (accumulateDisplay dc i) s)
      (commandEvents s (cmdDisplay s.params.cmd (accumulateDisplay dc i))) none) := by
  rw [exec_of_display hi, runRequest_of_guard hs.1 (requestGuard_of_shadow_request hs.2 (.inl hi)),
    ← rmwDisplayControl_eq hi]
  simp only [rmwDisplayControl, hdc, recordDisplayControl_eq]
  rfl

/-- An entry-mode request on a ready handle writes its flag and sends the whole byte (40_command_surface.md R115). -/
theorem exec_entry_of_ready {em : EntryMode} (hs : Ready s) (hi : isEntryRequest i = true)
    (hem : s.entryMode = some em) :
    exec i s = .next (afterOk (setEntryMode (accumulateEntry em i) s)
      (commandEvents s (cmdEntry s.params.cmd (accumulateEntry em i))) none) := by
  rw [exec_of_entry hi, runRequest_of_guard hs.1 (requestGuard_of_shadow_request hs.2 (.inr hi)),
    ← rmwEntryMode_eq hi]
  simp only [rmwEntryMode, hem, recordEntryMode_eq]
  rfl

/-- Two requests with the same guard and the same body have the same outcome. -/
theorem exec_congr {j : Instr} (hg : requestGuard i s = requestGuard j s) (hbody : requestBody i s = requestBody j s) :
    exec i s = exec j s := by
  rw [exec_eq, exec_eq, runRequest, runRequest, hg, hbody]

end Ready

/-! ## The clamp of MOVE -/

/-- MOVE asks its operands for nothing but the address it sends (40_command_surface.md R113). -/
theorem exec_move_congr {row row' col : Byte} {s : State}
    (hclamp : clampRow s.rows row.toNat = clampRow s.rows row'.toNat) :
    exec (.move row col) s = exec (.move row' col) s := by
  have hevents : requestEvents (.move row col) s = requestEvents (.move row' col) s := by
    simp only [requestEvents, ddramAddr, hclamp]
  have hafter : afterRequest (.move row col) s = afterRequest (.move row' col) s :=
    congrArg (fun es => complete none (emit es s)) hevents
  exact exec_congr rfl (congrArg Host.Outcome.next hafter)

/-- A row at or above the row count is clamped to the last row (40_command_surface.md R113). -/
theorem clampRow_of_le {rows : Rows} {row : Nat} (h : rows.count ≤ row) : clampRow rows row = rows.count - 1 := by
  simp only [clampRow]
  split <;> omega

/-- The last row is not clamped. -/
theorem clampRow_last (rows : Rows) : clampRow rows (BitVec.ofNat 8 (rows.count - 1)).toNat = rows.count - 1 := by
  cases rows <;> rfl

/-! ## The backlight line -/

/-- With a legal `PIN` every expander byte shows the backlight on its line (30_encoding.md R86, R87). -/
theorem lcdByte_bl {P : Pin} (hpin : pinCheck P = true) (nib : Nibble) (rs en bl : Bool) :
    (lcdByte P nib rs en bl).getLsbD P.bl = bl := by
  obtain ⟨hdistinct, hrange⟩ : (pinPositions P).Nodup ∧ ∀ n ∈ pinPositions P, n < 8 := by
    simpa [pinCheck] using hpin
  have hbl : P.bl < 8 := hrange _ (by simp [pinPositions])
  simp only [pinPositions, List.nodup_cons, List.mem_cons, List.not_mem_nil, or_false, not_or] at hdistinct
  obtain ⟨⟨-, -, hrs, -⟩, ⟨-, hrw, -⟩, ⟨hen, -⟩, ⟨hd4, hd5, hd6, hd7⟩, -⟩ := hdistinct
  simp [lcdByte, getLsbD_lineBit hbl, Ne.symm hrs, Ne.symm hrw, Ne.symm hen, hd4, hd5, hd6, hd7]

/-- Every byte of a logical byte carries `S.backlight` (41_lcd_backend.md R161). -/
theorem eq_lcdLineByte_of_mem_busBytes {s : State} {c x : Byte} {rs : Bool}
    (hx : x ∈ busBytes (lcdSendEvents s c rs)) : ∃ nib en, x = lcdLineByte s nib rs en := by
  have hbytes : busBytes (lcdSendEvents s c rs) =
      [lcdLineByte s (hiNibble c) rs false, lcdLineByte s (hiNibble c) rs true, lcdLineByte s (hiNibble c) rs false,
       lcdLineByte s (loNibble c) rs false, lcdLineByte s (loNibble c) rs true,
       lcdLineByte s (loNibble c) rs false] := rfl
  rw [hbytes] at hx
  simp only [List.mem_cons, List.not_mem_nil, or_false] at hx
  obtain rfl | rfl | rfl | rfl | rfl | rfl := hx <;> exact ⟨_, _, rfl⟩

end Sys2Proof.Machine
end

section
/-! SUPPORT. The pattern of events: a request that completes adds events whose kinds and waits are a function of the
request, the configuration and the parameters (40_command_surface.md R134). -/

namespace Sys2Proof.Machine

/-- The pattern of an LCD strobe (41_lcd_backend.md R163). -/
def strobePattern (P : Params) : List (Option Nat) :=
  [none, none, some P.timing.tEnHold, none, some P.timing.tEnHold]

/-- The pattern of one command (41_lcd_backend.md R164; 42_oled_backend.md R191). -/
def commandPattern (f : Family) (P : Params) : List (Option Nat) :=
  match f with
  | .lcd => strobePattern P ++ strobePattern P
  | .oled => [none, some P.timing.tOledCmd]

/-- The pattern of one data byte (41_lcd_backend.md R164; 42_oled_backend.md R192). -/
def dataPattern (f : Family) (P : Params) : List (Option Nat) :=
  match f with
  | .lcd => strobePattern P ++ strobePattern P
  | .oled => [none]

/-- The pattern of one entry of an OLED sequence (42_oled_backend.md R194). -/
def entryPattern (P : Params) : SeqEntry → List (Option Nat)
  | .cmd _ _ => commandPattern .oled P
  | .dat _ => dataPattern .oled P

/-- The pattern of the clear command and its wait (40_command_surface.md R111). -/
def clearPattern (f : Family) (P : Params) : List (Option Nat) := commandPattern f P ++ [some P.timing.tClear]

/-- The pattern of the three shadow commands of INIT (41_lcd_backend.md R175). -/
def shadowPattern (f : Family) (P : Params) : List (Option Nat) :=
  commandPattern f P ++ commandPattern f P ++ commandPattern f P

/-- The pattern of one synchronisation round (41_lcd_backend.md R173). -/
def lcdSyncPattern (P : Params) : List (Option Nat) := strobePattern P ++ [some P.timing.tSync]

/-- The pattern of the LCD power-up steps (41_lcd_backend.md R171 to R174). -/
def lcdPowerUpPattern (P : Params) : List (Option Nat) :=
  [some P.timing.tPowerup, none, some P.timing.tBlSettle] ++
  (lcdSyncPattern P ++ lcdSyncPattern P ++ lcdSyncPattern P) ++ strobePattern P

/-- The pattern of INIT before its clear and home (41_lcd_backend.md R170; 42_oled_backend.md R200, R202). -/
def initHeadPattern (f : Family) (rows : Rows) (P : Params) : List (Option Nat) :=
  match f with
  | .lcd => lcdPowerUpPattern P ++ shadowPattern f P
  | .oled => (initSeqOf P.oledInitSeq rows).flatMap (entryPattern P) ++
    if P.oledTailSends then shadowPattern f P else []

/-- The pattern of the events of a request that runs (40_command_surface.md R134). -/
def requestPattern (i : Instr) (f : Family) (rows : Rows) (P : Params) : List (Option Nat) :=
  match i with
  | .init => initHeadPattern f rows P ++ clearPattern f P ++ commandPattern f P
  | .clear => clearPattern f P
  | .home | .move _ _ | .dispoff | .dispon | .cursoroff | .cursoron | .blinkoff | .blinkon
  | .shcurl | .shcurr | .shdispl | .shdispr | .textrtl | .textltr | .autoshiftoff | .autoshifton => commandPattern f P
  | .backlightoff | .backlighton => [none]
  | .bright v => (brightSeqOf P.oledBrightSeq v).flatMap (entryPattern P)
  | .glyph _ _ _ _ _ _ _ _ _ => commandPattern f P ++ (List.replicate 8 (dataPattern f P)).flatten
  | .write _ => dataPattern f P

section Pattern

variable (s : State)

@[simp] theorem map_eventShape_lcdStrobeEvents (nib : Nibble) (rs : Bool) :
    (lcdStrobeEvents s nib rs).map eventShape = strobePattern s.params := rfl

@[simp] theorem map_eventShape_lcdRawEvents (bl : Bool) : (lcdRawEvents s bl).map eventShape = [none] := rfl

@[simp] theorem map_eventShape_commandEvents (c : Byte) :
    (commandEvents s c).map eventShape = commandPattern s.family s.params := by
  unfold commandEvents commandPattern
  cases s.family <;> rfl

@[simp] theorem map_eventShape_dataEvents (d : Byte) :
    (dataEvents s d).map eventShape = dataPattern s.family s.params := by
  unfold dataEvents dataPattern
  cases s.family <;> rfl

@[simp] theorem map_eventShape_entryEvents (e : SeqEntry) :
    (entryEvents s e).map eventShape = entryPattern s.params e := by
  cases e <;> rfl

@[simp] theorem map_eventShape_flatMap_entryEvents (q : List SeqEntry) :
    (q.flatMap (entryEvents s)).map eventShape = q.flatMap (entryPattern s.params) := by
  simp [List.map_flatMap]

@[simp] theorem map_eventShape_clearEvents :
    (clearEvents s).map eventShape = clearPattern s.family s.params := by
  simp [clearEvents, clearPattern, eventShape]

@[simp] theorem map_eventShape_shadowEvents :
    (shadowEvents s).map eventShape = shadowPattern s.family s.params := by
  simp [shadowEvents, shadowPattern]

@[simp] theorem map_eventShape_homeEvents :
    (homeEvents s).map eventShape = commandPattern s.family s.params :=
  map_eventShape_commandEvents s _

@[simp] theorem map_eventShape_lcdPowerUpEvents :
    (lcdPowerUpEvents s).map eventShape = lcdPowerUpPattern s.params := rfl

@[simp] theorem map_eventShape_initHeadEvents :
    (initHeadEvents s).map eventShape = initHeadPattern s.family s.rows s.params := by
  unfold initHeadEvents initHeadPattern
  cases hf : s.family with
  | lcd => simp [hf]
  | oled => cases ht : s.params.oledTailSends <;> simp [oledTailEvents, hf, ht]

/-- A read-modify-write from a defined shadow has the pattern of one command (40_command_surface.md R115). -/
theorem map_eventShape_elim_commandEvents {α : Type} {shadow : Option α} (code : α → Byte)
    (hshadow : shadow.isSome = true) :
    (shadow.elim [] fun x => commandEvents s (code x)).map eventShape = commandPattern s.family s.params := by
  obtain ⟨x, rfl⟩ := Option.isSome_iff_exists.mp hshadow
  exact map_eventShape_commandEvents s (code x)

/-- The events of a request have its pattern, when the shadow it reads is defined (40_command_surface.md R134). -/
theorem map_eventShape_requestEvents {i : Instr} (hread : readsDefined i s = true) :
    (requestEvents i s).map eventShape = requestPattern i s.family s.rows s.params := by
  cases i
  case dispoff | dispon | cursoroff | cursoron | blinkoff | blinkon =>
    rw [readsDefined_of_display rfl] at hread
    exact map_eventShape_elim_commandEvents s _ hread
  case textrtl | textltr | autoshiftoff | autoshifton =>
    rw [readsDefined_of_entry rfl] at hread
    exact map_eventShape_elim_commandEvents s _ hread
  all_goals simp [requestEvents, requestPattern, List.replicate]

end Pattern

/-- A request that completes has read defined shadows only and added its own events. -/
theorem newEvents_of_exec_ok {i : Instr} {s t : State} (h : exec i s = .next t) (ht : t.fault = none) :
    readsDefined i s = true ∧ newEvents s t = requestEvents i s := by
  obtain ⟨-, ⟨r, -, rfl⟩ | ⟨-, hread, rfl⟩⟩ := exec_next h
  · simp at ht
  · exact ⟨hread, newEvents_afterRequest i s⟩

/-- A request that completes adds events of its pattern (40_command_surface.md R134). -/
theorem map_eventShape_newEvents {i : Instr} {s t : State} (h : exec i s = .next t) (ht : t.fault = none) :
    (newEvents s t).map eventShape = requestPattern i s.family s.rows s.params := by
  obtain ⟨hread, hevents⟩ := newEvents_of_exec_ok h ht
  rw [hevents, map_eventShape_requestEvents s hread]

/-- INIT emits what it emits on a newly constructed handle of the same configuration, parameters and backlight
(40_command_surface.md R110). -/
theorem requestEvents_init_eq (s : State) : requestEvents .init s =
    requestEvents .init (setBacklight s.backlight (State.construct s.params s.family s.addr s.rows)) := rfl

end Sys2Proof.Machine
end

section
/-! SUPPORT. The requests that rewrite one shadow, run one after another (40_command_surface.md R115, R132). -/

namespace Sys2Proof.Machine

variable {α : Type} {isRequest : Instr → Bool} {shadow : State → Option α} {accumulate : α → Instr → α}
  {code : Cmd → α → Byte} {s t u : State} {x : α}

/-- `t` is a ready handle whose shadow is `x`, with the parameters of `s` and sending commands as `s` does. -/
structure ShadowIs (shadow : State → Option α) (s t : State) (x : α) : Prop where
  ready : Ready t
  shadow_eq : shadow t = some x
  params_eq : t.params = s.params
  commandEvents_eq : commandEvents t = commandEvents s

/-- Each of these requests, run from a defined shadow, changes the shadow as `accumulate` says and sends its byte
last (40_command_surface.md R115). -/
def RewritesShadow (isRequest : Instr → Bool) (shadow : State → Option α) (accumulate : α → Instr → α)
    (code : Cmd → α → Byte) : Prop :=
  ∀ {s : State} {i : Instr} {x : α}, Ready s → isRequest i = true → shadow s = some x →
    ∃ t, exec i s = .next t ∧ ShadowIs shadow s t (accumulate x i) ∧
      commandEvents s (code s.params.cmd (accumulate x i)) <:+ t.trace

/-- The display requests rewrite the display-control shadow (40_command_surface.md R116 to R121). -/
theorem rewritesShadow_display :
    RewritesShadow isDisplayRequest State.displayControl accumulateDisplay cmdDisplay :=
  fun hs hi hdc => ⟨_, exec_display_of_ready hs hi hdc, ⟨hs, rfl, rfl, rfl⟩, List.suffix_append _ _⟩

/-- The entry-mode requests rewrite the entry-mode shadow (40_command_surface.md R126, R127). -/
theorem rewritesShadow_entry : RewritesShadow isEntryRequest State.entryMode accumulateEntry cmdEntry :=
  fun hs hi hem => ⟨_, exec_entry_of_ready hs hi hem, ⟨hs, rfl, rfl, rfl⟩, List.suffix_append _ _⟩

/-- A request after others runs on the handle they leave (20_memory.md R59). -/
theorem execAll_concat {reqs : List Instr} (i : Instr) (h : execAll reqs s = .next t) :
    execAll (reqs ++ [i]) s = exec i t := by
  induction reqs generalizing s with
  | nil =>
    cases h
    simp only [List.nil_append, execAll]
    cases exec i t <;> rfl
  | cons j js ih =>
    simp only [List.cons_append, execAll] at h ⊢
    cases hj : exec j s with
    | next u =>
      rw [hj] at h
      exact ih h
    | fault r => simp [hj] at h
    | refused r => simp [hj] at h

/-- A run of such requests accumulates them in call order, and the last one sends the byte of the accumulation
(40_command_surface.md R132). -/
theorem execAll_accumulates (hrw : RewritesShadow isRequest shadow accumulate code) (hs : ShadowIs shadow s u x)
    (reqs : List Instr) (hreqs : ∀ i ∈ reqs, isRequest i = true) :
    ∃ t, execAll reqs u = .next t ∧ ShadowIs shadow s t (reqs.foldl accumulate x) ∧
      (reqs ≠ [] → commandEvents s (code s.params.cmd (reqs.foldl accumulate x)) <:+ t.trace) := by
  induction reqs using List.reverseRecOn with
  | nil => exact ⟨u, rfl, hs, fun hne => absurd rfl hne⟩
  | append_singleton is i ih =>
    simp only [List.forall_mem_append, List.forall_mem_singleton] at hreqs
    obtain ⟨v, hrun, hv, -⟩ := ih hreqs.1
    obtain ⟨t, hstep, ht, hlast⟩ := hrw hv.ready hreqs.2 hv.shadow_eq
    rw [hv.params_eq, hv.commandEvents_eq] at hlast
    simp only [List.foldl_append, List.foldl_cons, List.foldl_nil]
    exact ⟨t, (execAll_concat i hrun).trans hstep,
      ⟨ht.ready, ht.shadow_eq, ht.params_eq.trans hv.params_eq, ht.commandEvents_eq.trans hv.commandEvents_eq⟩,
      fun _ => hlast⟩

/-- INIT and then such requests: the accumulation starts where INIT leaves the shadow (40_command_surface.md R132). -/
theorem execAll_init_accumulates (hrw : RewritesShadow isRequest shadow accumulate code) (hs : Fresh s)
    (hx : shadow (afterRequest .init s) = some x) {reqs : List Instr} (hreqs : ∀ i ∈ reqs, isRequest i = true) :
    ∃ t, execAll (.init :: reqs) s = .next t ∧ shadow t = some (reqs.foldl accumulate x) ∧
      (reqs ≠ [] → commandEvents s (code s.params.cmd (reqs.foldl accumulate x)) <:+ t.trace) := by
  have hsends : commandEvents (afterRequest .init s) = commandEvents s := by
    simp [afterRequest, ranRequest, fieldsAfter, storeShadows]
  have hinit : ShadowIs shadow s (afterRequest .init s) x :=
    ⟨⟨(afterRequest_fault .init s).trans hs.1, afterRequest_initialized .init s⟩, hx, afterRequest_params .init s,
      hsends⟩
  obtain ⟨t, hrun, ht, hlast⟩ := execAll_accumulates hrw hinit reqs hreqs
  exact ⟨t, by simpa only [execAll, exec_init_of_fresh hs] using hrun, ht.shadow_eq, hlast⟩

end Sys2Proof.Machine
end

section
/-! The statements of 40_command_surface.md, settled from the laws above. -/

namespace Sys2Proof.Machine

/-! ## Cursor and data requests -/

/-- Settles O22: the clamp and the address are those of the one command a move emits, and rows beyond the last are
clamped alike. -/
theorem moveSendsClampedAddress : Obligations.MoveSendsClampedAddress := by
  refine ⟨fun _ _ => rfl, fun s row col hs => exec_of_ready hs, fun s row col hrow => ?_,
    fun s row col hs => exec_of_fresh hs⟩
  exact exec_move_congr ((clampRow_of_le hrow).trans (clampRow_last s.rows).symm)

/-- Settles O26: the operand check splits the indices at 8, and the bitmap bytes are sent one by one. -/
theorem glyphSendsAddressThenBitmap : Obligations.GlyphSendsAddressThenBitmap := by
  refine ⟨fun _ _ _ _ _ _ _ _ _ => rfl, fun s idx m0 m1 m2 m3 m4 m5 m6 m7 hs hidx => ?_,
    fun s idx m0 m1 m2 m3 m4 m5 m6 m7 hs hidx => ?_, fun s idx m0 m1 m2 m3 m4 m5 m6 m7 hs => exec_of_fresh hs⟩
  · exact exec_of_ready hs (hg := by simp [guardFamily, guardOperand, hidx])
      (hevents := by simp [requestEvents, cmdSetCgram, truncByte, cgramAddr])
  · exact exec_of_ready_refused hs (by simp [guardFamily, guardOperand, hidx])

/-- Settles O20: the events of CLEAR, and nothing else written. -/
theorem clearSendsThenWaits : Obligations.ClearSendsThenWaits :=
  ⟨rfl, fun _ hs => exec_of_ready hs, fun _ hs => exec_of_fresh hs, by decide⟩

/-- Settles O21: HOME's body is by definition the move to 0, 0, behind the same guard, and row 0 is its own clamp. -/
theorem homeIsMoveToOrigin : Obligations.HomeIsMoveToOrigin :=
  ⟨rfl, fun _ hs => exec_of_ready hs, fun _ => rfl, fun _ hs => exec_of_fresh hs⟩

/-- Settles O29: one data byte, and the one result with a value. -/
theorem writeSendsOneDataByte : Obligations.WriteSendsOneDataByte :=
  ⟨fun _ => rfl, fun _ _ hs => exec_of_ready hs, fun _ _ hs => exec_of_fresh hs⟩

/-! ## The requests of one family -/

/-- Settles O27: the sequence's events and tags are those of the request, and check 2 puts the toggle to rest. -/
theorem brightSendsItsSequence : Obligations.BrightSendsItsSequence := by
  refine ⟨fun _ => rfl, fun s v hs hfamily => ⟨?_, fun hwf => replayTags_brightSeqOf hwf v _⟩,
    fun s v hs hfamily => ?_, fun s v hs => exec_of_fresh hs, fun _ _ => rfl⟩
  · exact exec_of_ready hs (hg := by simp [guardFamily, guardOperand, hfamily])
  · exact exec_of_ready_refused hs (by simp [guardFamily, hfamily])

/-- Settles O28: the raw byte carries the line written, and a later byte has the line of `S.backlight`. -/
theorem backlightWritesAndSendsRawByte : Obligations.BacklightWritesAndSendsRawByte := by
  refine ⟨⟨rfl, rfl⟩, fun s hs hfamily => ⟨?_, ?_⟩, fun s hs hfamily => ⟨?_, ?_⟩,
    fun s hs => ⟨exec_of_fresh hs, exec_of_fresh hs⟩, fun s b rs c x hpin hx => ?_⟩
  · exact exec_of_ready hs (hg := by simp [guardFamily, guardOperand, hfamily])
  · exact exec_of_ready hs (hg := by simp [guardFamily, guardOperand, hfamily])
  · exact exec_of_ready_refused hs (by simp [guardFamily, hfamily])
  · exact exec_of_ready_refused hs (by simp [guardFamily, hfamily])
  · obtain ⟨nib, en, rfl⟩ := eq_lcdLineByte_of_mem_busBytes hx
    exact lcdByte_bl hpin nib rs en b

/-! ## The requests that rewrite a shadow, and the shifts -/

/-- Settles O23: one read-modify-write for the six requests. -/
theorem displayRequestsRewriteOneFlag : Obligations.DisplayRequestsRewriteOneFlag := by
  refine ⟨⟨rfl, rfl, rfl, rfl, rfl, rfl⟩, fun s dc hs hdc => ?_, fun s i hs hi => ?_⟩
  · have hrun {i : Instr} (hi : isDisplayRequest i = true) := exec_display_of_ready hs hi hdc
    exact ⟨hrun rfl, hrun rfl, hrun rfl, hrun rfl, hrun rfl, hrun rfl⟩
  · obtain ⟨hne, -, -⟩ := guard_checks_of_shadow_request (.inl hi) s
    exact exec_of_fresh hs hne

/-- Settles O24: one read-modify-write for the four requests. -/
theorem entryRequestsRewriteOneFlag : Obligations.EntryRequestsRewriteOneFlag := by
  refine ⟨⟨rfl, rfl, rfl, rfl⟩, fun s em hs hem => ?_, fun s i hs hi => ?_⟩
  · have hrun {i : Instr} (hi : isEntryRequest i = true) := exec_entry_of_ready hs hi hem
    exact ⟨hrun rfl, hrun rfl, hrun rfl, hrun rfl⟩
  · obtain ⟨hne, -, -⟩ := guard_checks_of_shadow_request (.inr hi) s
    exact exec_of_fresh hs hne

/-- A shift's byte is `CMD.SHIFT` with the flags that are set (30_encoding.md R82). -/
theorem cmdShift_eq (C : Cmd) :
    cmdShift C true false = C.shift ||| C.shiftSc ∧ cmdShift C true true = C.shift ||| C.shiftSc ||| C.shiftRl ∧
    cmdShift C false false = C.shift ∧ cmdShift C false true = C.shift ||| C.shiftRl := by
  simp [cmdShift, flagBits]

/-- Settles O25: each shift emits one command, whose byte is `cmdShift` of its two flags. -/
theorem shiftsAreStateless : Obligations.ShiftsAreStateless := by
  refine ⟨⟨rfl, rfl, rfl, rfl⟩, fun s hs => ?_, fun s hs i hi => ?_⟩
  · obtain ⟨hdispl, hdispr, hcurl, hcurr⟩ := cmdShift_eq s.params.cmd
    refine ⟨?_, ?_, ?_, ?_⟩
    · exact exec_of_ready hs (hevents := congrArg (commandEvents s) hdispl)
    · exact exec_of_ready hs (hevents := congrArg (commandEvents s) hdispr)
    · exact exec_of_ready hs (hevents := congrArg (commandEvents s) hcurl)
    · exact exec_of_ready hs (hevents := congrArg (commandEvents s) hcurr)
  · refine exec_of_fresh hs ?_
    rintro rfl
    simp at hi

/-! ## Sequences and patterns -/

/-- Settles O30: INIT leaves the starting values, and each request rewrites its own shadow. -/
theorem shadowsAccumulateInCallOrder : Obligations.ShadowsAccumulateInCallOrder :=
  ⟨fun _ _ hs hreqs => execAll_init_accumulates rewritesShadow_display hs rfl hreqs,
    fun _ _ hs hreqs => execAll_init_accumulates rewritesShadow_entry hs rfl hreqs⟩

/-- Settles O51: the pattern is `requestPattern` of the request, the configuration and the parameters. -/
theorem eventPatternIsFixedByConfiguration : Obligations.EventPatternIsFixedByConfiguration := by
  intro i s s' t t' hfamily hrows hparams h h' ht ht'
  rw [map_eventShape_newEvents h ht, map_eventShape_newEvents h' ht', hfamily, hrows, hparams]

/-- Settles O52: INIT reads the configuration, the parameters and the backlight only. -/
theorem initIsDeterministicInConfiguration : Obligations.InitIsDeterministicInConfiguration := by
  intro s s' t t' hfamily haddr hrows hparams hbacklight h h' ht ht'
  obtain ⟨-, hevents⟩ := newEvents_of_exec_ok h ht
  obtain ⟨-, hevents'⟩ := newEvents_of_exec_ok h' ht'
  rw [hevents, hevents', requestEvents_init_eq s', requestEvents_init_eq s, hfamily, haddr, hrows, hparams, hbacklight]

end Sys2Proof.Machine
end

section
/-! SUPPORT. The LCD protocol seen from the bus: the lines of an expander byte under a legal `PIN`, the bytes of a
strobe and what they latch (41_lcd_backend.md R161 to R168). -/

namespace Sys2Proof.Machine

/-! ## The lines of an expander byte -/

section Lines

variable {P : Pin}

/-- Every bit of an expander byte is the line at its position (30_encoding.md R86). -/
theorem getLsbD_lcdByte {k : Nat} (hk : k < 8) (nib : Nibble) (rs en bl : Bool) :
    (lcdByte P nib rs en bl).getLsbD k =
      (bl && decide (k = P.bl) || en && decide (k = P.en) || rs && decide (k = P.rs) ||
        nib.getLsbD 0 && decide (k = P.d4) || nib.getLsbD 1 && decide (k = P.d5) ||
        nib.getLsbD 2 && decide (k = P.d6) || nib.getLsbD 3 && decide (k = P.d7)) := by
  simp [lcdByte, getLsbD_lineBit hk]

/-- Off its position the EN line leaves an expander byte as it is (30_encoding.md R86). -/
theorem getLsbD_lcdByte_of_ne_en {k : Nat} (hk : k ≠ P.en) (nib : Nibble) (rs en bl : Bool) :
    (lcdByte P nib rs en bl).getLsbD k = (lcdByte P nib rs false bl).getLsbD k := by
  by_cases hk8 : k < 8
  · simp [getLsbD_lcdByte hk8, hk]
  · rw [BitVec.getLsbD_of_ge _ k (by omega), BitVec.getLsbD_of_ge _ k (by omega)]

/-- A nibble is the sum of its four bits, each with its weight. -/
theorem nibble_eq_ofNat_bits (nib : Nibble) :
    BitVec.ofNat 4 ((nib.getLsbD 0).toNat + 2 * (nib.getLsbD 1).toNat + 4 * (nib.getLsbD 2).toNat +
      8 * (nib.getLsbD 3).toNat) = nib := by
  revert nib
  decide

/-- With a legal `PIN` an expander byte shows RS, EN and its nibble on their lines: no two lines share a bit
(30_encoding.md R86, R87). -/
theorem lcdByte_lines (hpin : pinCheck P = true) (nib : Nibble) (rs en bl : Bool) :
    (lcdByte P nib rs en bl).getLsbD P.rs = rs ∧ (lcdByte P nib rs en bl).getLsbD P.en = en ∧
      nibbleOnLines P (lcdByte P nib rs en bl) = nib := by
  obtain ⟨hnodup, hrange⟩ : (pinPositions P).Nodup ∧ ∀ n ∈ pinPositions P, n < 8 := by
    simpa [pinCheck] using hpin
  have hdistinct : (pinPositions P).Pairwise fun m n => m ≠ n ∧ n ≠ m := hnodup.imp fun h => ⟨h, h.symm⟩
  simp only [pinPositions, List.pairwise_cons, List.forall_mem_cons] at hdistinct hrange
  obtain ⟨hrs, -, hen, -, hd4, hd5, hd6, hd7, -⟩ := hrange
  refine ⟨?_, ?_, ?_⟩
  · simp [getLsbD_lcdByte hrs, hdistinct]
  · simp [getLsbD_lcdByte hen, hdistinct]
  · simpa [nibbleOnLines, getLsbD_lcdByte hd4, getLsbD_lcdByte hd5, getLsbD_lcdByte hd6, getLsbD_lcdByte hd7,
      hdistinct] using nibble_eq_ofNat_bits nib

/-- With a legal `PIN` EN's bit shows the EN line (30_encoding.md R86, R87). -/
theorem lcdByte_en (hpin : pinCheck P = true) (nib : Nibble) (rs en bl : Bool) :
    (lcdByte P nib rs en bl).getLsbD P.en = en := by
  obtain ⟨-, hen, -⟩ := lcdByte_lines hpin nib rs en bl
  exact hen

end Lines

/-! ## The bytes of a strobe and of a logical byte -/

section Strobe

variable {s : State}

/-- A strobe is EN low, EN high, hold, EN low, hold (41_lcd_backend.md R163). -/
theorem lcdStrobeEvents_eq (s : State) (nib : Nibble) (rs : Bool) :
    lcdStrobeEvents s nib rs =
      [.txn s.addr [lcdLineByte s nib rs false], .txn s.addr [lcdLineByte s nib rs true],
       .wait s.params.timing.tEnHold, .txn s.addr [lcdLineByte s nib rs false], .wait s.params.timing.tEnHold] := rfl

/-- The bytes of a strobe latch its nibble with its RS, and leave EN low (41_lcd_backend.md R163, R167). -/
theorem latched_lcdStrobeEvents (hpin : pinCheck s.params.pin = true) {prev : Byte}
    (hprev : prev.getLsbD s.params.pin.en = false) (nib : Nibble) (rs : Bool) (rest : List Byte) :
    latched s.params.pin prev (busBytes (lcdStrobeEvents s nib rs) ++ rest) =
      (rs, nib) :: latched s.params.pin (lcdLineByte s nib rs false) rest := by
  have hlines (en : Bool) := lcdByte_lines hpin nib rs en s.backlight
  simp [lcdStrobeEvents_eq, lcdLineByte, busBytes, latched, hprev, hlines]

/-- A logical byte is six bus writes with its RS, `S.backlight` and RW low (41_lcd_backend.md R168). -/
theorem lcdSendEvents_lines (hpin : pinCheck s.params.pin = true) (c : Byte) (rs : Bool) :
    txnCount (lcdSendEvents s c rs) = 6 ∧ (busBytes (lcdSendEvents s c rs)).length = 6 ∧
      ∀ b ∈ busBytes (lcdSendEvents s c rs), b.getLsbD s.params.pin.rs = rs ∧
        b.getLsbD s.params.pin.bl = s.backlight ∧ b.getLsbD s.params.pin.rwLine = false := by
  refine ⟨rfl, rfl, fun b hb => ?_⟩
  obtain ⟨nib, en, rfl⟩ := eq_lcdLineByte_of_mem_busBytes hb
  obtain ⟨hrs, -, -⟩ := lcdByte_lines hpin nib rs en s.backlight
  exact ⟨hrs, lcdByte_bl hpin nib rs en s.backlight, lcdByte_rwLine_low hpin nib rs en s.backlight⟩

theorem commandEvents_of_lcd (hf : s.family = .lcd) (c : Byte) : commandEvents s c = lcdSendEvents s c false := by
  simp [commandEvents, hf]

theorem dataEvents_of_lcd (hf : s.family = .lcd) (d : Byte) : dataEvents s d = lcdSendEvents s d true := by
  simp [dataEvents, hf]

/-- The events an emission adds are those emitted. -/
@[simp] theorem newEvents_emit (es : List Event) (s : State) : newEvents s (emit es s) = es := by
  simp [newEvents]

end Strobe

end Sys2Proof.Machine
end

section
/-! SUPPORT. INIT on a fresh handle: the state it leaves as one equation, and the counts of a trace as functions of its
pattern (40_command_surface.md R110; 41_lcd_backend.md R170, R176; 70_reset_and_hazards.md R261). -/

namespace Sys2Proof.Machine

/-! ## The state INIT leaves -/

/-- INIT emits its events, stores the shadows, moves the toggle and returns nothing (40_command_surface.md R110). -/
theorem afterRequest_init_eq (s : State) :
    afterRequest .init s =
      afterOk (setToggle (toggleAfterInit s) (setInitialized (storeShadows s))) (requestEvents .init s) none := rfl

/-- INIT on LCD leaves the toggle alone (10_state.md R30). -/
theorem toggleAfterInit_of_lcd {s : State} (hf : s.family = .lcd) : toggleAfterInit s = toggleOf s := by
  simp [toggleAfterInit, hf]

/-- INIT on LCD emits the five steps in order (41_lcd_backend.md R170 to R175). -/
theorem requestEvents_init_of_lcd {s : State} (hf : s.family = .lcd) :
    requestEvents .init s = lcdPowerUpEvents s ++ shadowEvents s ++ clearEvents s ++ homeEvents s := by
  simp [requestEvents, initHeadEvents, hf]

/-! ## The counts of a trace -/

/-- The transactions of a trace are the places of its pattern without a wait. -/
theorem txnCount_eq_countP_shape (es : List Event) : txnCount es = (es.map eventShape).countP Option.isNone := by
  have hshape : isTxn = Option.isNone ∘ eventShape := funext fun e => by cases e <;> rfl
  rw [txnCount, List.countP_map, hshape]

/-- The waits of a trace are the places of its pattern with a wait. -/
theorem waitCount_eq_countP_shape (es : List Event) : waitCount es = (es.map eventShape).countP Option.isSome := by
  have hshape : (fun e => !isTxn e) = Option.isSome ∘ eventShape := funext fun e => by cases e <;> rfl
  rw [waitCount, List.countP_map, hshape]

/-- The total wait of a trace is the sum of the waits of its pattern. -/
theorem waitTotal_eq_sum_shape (es : List Event) : waitTotal es = (es.map eventShape).reduceOption.sum := by
  induction es with
  | nil => rfl
  | cons e es ih =>
    simp only [waitTotal] at ih
    cases e <;> simp [waitTotal, waitOf, eventShape, ih]

/-- The waits of INIT's pattern on LCD: one power-up, one settle, one clear, three synchronisation waits, and the two
holds of each of the 14 strobes (41_lcd_backend.md R176). -/
theorem sum_requestPattern_init_lcd (rows : Rows) (P : Params) :
    (requestPattern .init .lcd rows P).reduceOption.sum =
      P.timing.tPowerup + P.timing.tBlSettle + 3 * P.timing.tSync + 28 * P.timing.tEnHold + P.timing.tClear := by
  simp only [requestPattern, initHeadPattern, lcdPowerUpPattern, lcdSyncPattern, shadowPattern, clearPattern,
    commandPattern, strobePattern, List.reduceOption_append, List.reduceOption_cons_of_some,
    List.reduceOption_cons_of_none, List.reduceOption_nil, List.sum_append, List.sum_cons, List.sum_nil]
  ring

/-- The events INIT adds on a fresh handle have its pattern (40_command_surface.md R110, R134). -/
theorem map_eventShape_newEvents_init {s t : State} (hs : Fresh s) (h : exec .init s = .next t) :
    (newEvents s t).map eventShape = requestPattern .init s.family s.rows s.params := by
  rw [exec_init_of_fresh hs] at h
  cases h
  rw [newEvents_afterRequest, map_eventShape_requestEvents s rfl]

end Sys2Proof.Machine
end

section
/-! The statements of 41_lcd_backend.md, settled from the laws above. -/

namespace Sys2Proof.Machine

/-! ## Bytes on the bus -/

/-- Settles O31: a strobe is its five events, and the nibbles are those of the multiplexer. -/
theorem lcdLogicalByteFraming : Obligations.LcdLogicalByteFraming :=
  fun s _ rs => ⟨fun nib => lcdStrobeEvents_eq s nib rs, rfl⟩

/-- Settles O33: at EN's position both bytes show EN, and at any other the EN line is not seen. -/
theorem strobeBytesDifferInEnOnly : Obligations.StrobeBytesDifferInEnOnly := by
  refine ⟨lcdStrobeEvents_eq, fun P nib rs bl k hpin => ⟨?_, lcdByte_en hpin nib rs false bl⟩⟩
  split
  · next hk => rw [hk, lcdByte_en hpin nib rs true bl]
  · next hk => exact getLsbD_lcdByte_of_ne_en hk nib rs true bl

/-- Settles O32: a command and a data byte are each one logical byte, with RS low and high. -/
theorem lcdSixWritesWithTheirLines : Obligations.LcdSixWritesWithTheirLines := by
  intro s c hf hpin
  simp only [sendCommand_eq, sendData_eq, newEvents_emit, commandEvents_of_lcd hf, dataEvents_of_lcd hf]
  exact ⟨lcdSendEvents_lines hpin c false, lcdSendEvents_lines hpin c true⟩

/-- Settles O34: each strobe latches its nibble, and the second starts with the EN line low where the first ends. -/
theorem lcdByteIsLatchedAsTwoNibbles : Obligations.LcdByteIsLatchedAsTwoNibbles := by
  intro s c prev rs hpin hprev
  have hlow : (lcdLineByte s (hiNibble c) rs false).getLsbD s.params.pin.en = false :=
    lcdByte_en hpin (hiNibble c) rs false s.backlight
  have hbytes : busBytes (lcdSendEvents s c rs) =
      busBytes (lcdStrobeEvents s (hiNibble c) rs) ++ (busBytes (lcdStrobeEvents s (loNibble c) rs) ++ []) := rfl
  rw [hbytes, latched_lcdStrobeEvents hpin hprev, latched_lcdStrobeEvents hpin hlow, latched]

/-! ## INIT -/

/-- Settles O17: INIT runs on a fresh handle; on LCD its events are the five steps and the toggle stays. -/
theorem initOnLcd : Obligations.InitOnLcd := by
  refine ⟨rfl, fun s hs hf => ?_⟩
  rw [exec_init_of_fresh hs, afterRequest_init_eq, toggleAfterInit_of_lcd hf, requestEvents_init_of_lcd hf]
  simp only [lcdPowerUpEvents, shadowEvents, clearEvents, homeEvents, commandEvents_of_lcd hf, List.append_assoc]
  rfl

/-- Settles O37: the counts are those of INIT's pattern, which neither `ROWS` nor the codes enter. -/
theorem lcdInitTraceSize : Obligations.LcdInitTraceSize := by
  intro s t hs hf h
  have hpattern := map_eventShape_newEvents_init hs h
  rw [txnCount_eq_countP_shape, waitCount_eq_countP_shape, waitTotal_eq_sum_shape, hpattern, hf,
    sum_requestPattern_init_lcd]
  refine ⟨rfl, rfl, fun htiming => ?_⟩
  rw [htiming]
  rfl

end Sys2Proof.Machine
end

section
/-! SUPPORT. The OLED protocol: a command and a data byte on an OLED handle, the two toggle bits a sequence leaves as
two separate folds, the toggle after INIT and BRIGHT, the default sequence as a function of the row count, and the one
place of the value in a brightness sequence (42_oled_backend.md R193 to R207). -/

namespace Sys2Proof.Machine

section Oled

variable {s : State}

/-! ## Bytes on the bus -/

theorem commandEvents_of_oled (hf : s.family = .oled) (c : Byte) : commandEvents s c = oledCommandEvents s c := by
  simp [commandEvents, hf]

theorem dataEvents_of_oled (hf : s.family = .oled) (d : Byte) : dataEvents s d = oledDataEvents s d := by
  simp [dataEvents, hf]

/-! ## The toggle -/

/-- RE after an entry: an RE tag sets it (42_oled_backend.md R195). -/
def reAfterEntry (re : Option Bool) (e : SeqEntry) : Option Bool :=
  match e with
  | .cmd _ .re1 => some true
  | .cmd _ .re0 => some false
  | _ => re

/-- SD after an entry: an SD tag sets it (42_oled_backend.md R195). -/
def sdAfterEntry (sd : Option Bool) (e : SeqEntry) : Option Bool :=
  match e with
  | .cmd _ .sd1 => some true
  | .cmd _ .sd0 => some false
  | _ => sd

/-- An entry's tag updates each bit from that bit alone (42_oled_backend.md R195). -/
theorem applyEntry_eq (t : Toggle) (e : SeqEntry) : applyEntry t e = (reAfterEntry t.1 e, sdAfterEntry t.2 e) :=
  match e with
  | .cmd _ .re1 | .cmd _ .re0 | .cmd _ .sd1 | .cmd _ .sd0 | .cmd _ .keep | .dat _ => rfl

/-- A replay runs the two bits side by side (42_oled_backend.md R195, R196). -/
theorem replayTags_eq_foldl (t : Toggle) (q : List SeqEntry) :
    replayTags t q = (q.foldl reAfterEntry t.1, q.foldl sdAfterEntry t.2) := by
  induction q generalizing t with
  | nil => rfl
  | cons e q ih => simpa only [replayTags, List.foldl_cons, applyEntry_eq] using ih (applyEntry t e)

/-- With well-formed parameters INIT and BRIGHT on OLED leave the toggle at rest, wherever it was
(42_oled_backend.md R197, R207). -/
theorem toggleAfter_of_sequence {i : Instr} (hwf : s.params.wf = true) (hf : s.family = .oled)
    (hi : i = .init ∨ ∃ v, i = .bright v) : toggleAfter i s = (some false, some false) := by
  obtain rfl | ⟨v, rfl⟩ := hi
  · simpa only [toggleAfter, toggleAfterInit, hf] using replayTags_initSeqOf hwf s.rows (toggleOf s)
  · exact replayTags_brightSeqOf hwf v (toggleOf s)

/-- A request that completes leaves the handle of its normal form. -/
theorem eq_afterRequest_of_exec_ok {i : Instr} {t : State} (h : exec i s = .next t) (ht : t.fault = none) :
    t = afterRequest i s := by
  obtain ⟨-, ⟨r, -, rfl⟩ | ⟨-, -, hafter⟩⟩ := exec_next h
  · simp at ht
  · exact hafter

/-! ## INIT -/

/-- INIT on OLED replays the tags of its sequence (42_oled_backend.md R196, R200). -/
theorem toggleAfterInit_of_oled (hf : s.family = .oled) :
    toggleAfterInit s = replayTags (toggleOf s) (initSeqOf s.params.oledInitSeq s.rows) := by
  simp [toggleAfterInit, hf]

/-- INIT on OLED emits the sequence, the tail, `clear()` and `home()` in order (42_oled_backend.md R200). -/
theorem requestEvents_init_of_oled (hf : s.family = .oled) :
    requestEvents .init s = (initSeqOf s.params.oledInitSeq s.rows).flatMap (entryEvents s) ++ oledTailEvents s ++
      clearEvents s ++ homeEvents s := by
  simp [requestEvents, initHeadEvents, hf]

end Oled

/-! ## The default sequence -/

theorem initSeqOf_defaultOledInitSeq (rows : Rows) : initSeqOf defaultOledInitSeq rows = defaultInitSeqAt rows := by
  cases rows <;> rfl

/-- The default sequences of two row counts differ at most in entry 22, the line selection
(42_oled_backend.md R201, R203). -/
theorem defaultInitSeqAt_eq_set (r r' : Rows) :
    defaultInitSeqAt r = (defaultInitSeqAt r').set 21 (.cmd (lineSel r) .keep) := rfl

/-- The pattern of INIT on OLED does not depend on the row count under the default parameters: the line selection is
one command either way (42_oled_backend.md R203, R204). -/
theorem requestPattern_init_oled_default (rows rows' : Rows) :
    requestPattern .init .oled rows defaultParams = requestPattern .init .oled rows' defaultParams := by
  have hseq (r : Rows) : initSeqOf defaultParams.oledInitSeq r = defaultInitSeqAt r := initSeqOf_defaultOledInitSeq r
  simp only [requestPattern, initHeadPattern, hseq]
  rfl

/-! ## The brightness sequence -/

/-- A brightness entry other than the value's place is the same for every value (42_oled_backend.md R206). -/
theorem brightEntryAt_congr {b : BrightEntry} (hb : b ≠ .value) (v w : Byte) :
    brightEntryAt v b = brightEntryAt w b := by
  cases b with
  | fixed e => rfl
  | value => exact absurd rfl hb

/-- Entries without the value's place are the same for every value (42_oled_backend.md R206). -/
theorem brightSeqOf_congr {q : List BrightEntry} (hq : .value ∉ q) (v w : Byte) : brightSeqOf q v = brightSeqOf q w :=
  List.map_congr_left fun _ hb => brightEntryAt_congr (ne_of_mem_of_not_mem hb hq) v w

/-- A brightness sequence that passes the check is six entries around one place of the value
(42_oled_backend.md R207 check 4). -/
theorem brightSeqOf_of_check {q : List BrightEntry} (hq : oledBrightSeqCheck q = true) :
    ∃ before after : List SeqEntry, before.length + 1 + after.length = 6 ∧
      ∀ v, brightSeqOf q v = before ++ .cmd v .keep :: after := by
  simp only [oledBrightSeqCheck, Bool.and_eq_true, beq_iff_eq] at hq
  obtain ⟨⟨⟨hlength, -⟩, hcount⟩, -⟩ := hq
  obtain ⟨l, r, rfl⟩ := List.append_of_mem (List.count_pos_iff.mp (hcount ▸ Nat.one_pos))
  have hnone : l.count .value = 0 ∧ r.count .value = 0 := by
    simp only [List.count_append, List.count_cons_self] at hcount
    omega
  obtain ⟨hl, hr⟩ := hnone
  refine ⟨brightSeqOf l 0, brightSeqOf r 0, ?_, fun v => ?_⟩
  · simp only [brightSeqOf, List.length_map, List.length_append, List.length_cons] at hlength ⊢
    omega
  · rw [brightSeqOf_congr (List.count_eq_zero.mp hl) 0 v, brightSeqOf_congr (List.count_eq_zero.mp hr) 0 v]
    simp [brightSeqOf, brightEntryAt]

end Sys2Proof.Machine
end

section
/-! The statements of 42_oled_backend.md, settled from the laws above. -/

namespace Sys2Proof.Machine

/-! ## Bytes and sequences -/

/-- Settles O38: the sends emit the events of a command and of a data byte, and on OLED those are the codec's. -/
theorem oledByteFraming : Obligations.OledByteFraming := by
  intro s c hf
  rw [sendCommand_eq, sendData_eq, commandEvents_of_oled hf, dataEvents_of_oled hf]
  exact ⟨rfl, rfl⟩

/-- Settles O39: a sequence is one emission and one replay of its tags, and the replay runs each bit alone. -/
theorem oledSequenceSendsInOrder : Obligations.OledSequenceSendsInOrder := by
  intro s q
  rw [oledSendSeq_eq, replayTags_eq_foldl]
  rfl

/-- Settles O40: a request that completes leaves the toggle of its sequence's tags, which check 2 puts to rest. -/
theorem toggleEndsInFundamentalSet : Obligations.ToggleEndsInFundamentalSet := by
  intro s t i hwf hf hi h ht
  rw [eq_afterRequest_of_exec_ok h ht, afterRequest_oledRE, afterRequest_oledSD, toggleAfter_of_sequence hwf hf hi]
  exact ⟨rfl, rfl⟩

/-! ## INIT -/

/-- Settles O18: INIT runs on a fresh handle; on OLED its events are the sequence, the tail, clear and home, and the
toggle follows the sequence's tags. -/
theorem initOnOled : Obligations.InitOnOled := by
  intro s hs hf
  rw [exec_init_of_fresh hs, afterRequest_init_eq, toggleAfterInit_of_oled hf, requestEvents_init_of_oled hf]
  simp only [oledTailEvents, shadowEvents, clearEvents, homeEvents, commandEvents_of_oled hf]
  rfl

/-- Settles O41: the counts are those of INIT's pattern, which the row count does not enter. -/
theorem oledInitTraceSize : Obligations.OledInitTraceSize := by
  intro s t hs hf hparams h
  have hpattern := map_eventShape_newEvents_init hs h
  rw [txnCount_eq_countP_shape, waitCount_eq_countP_shape, waitTotal_eq_sum_shape, hpattern, hf, hparams,
    requestPattern_init_oled_default s.rows .one]
  exact ⟨rfl, rfl, rfl⟩

/-! ## The default and the well-formed sequences -/

/-- Settles O42: the default sequence of a row count is that of any other with entry 22 set to its line selection. -/
theorem oledInitLineSelection : Obligations.OledInitLineSelection := by
  intro r r'
  simp only [initSeqOf_defaultOledInitSeq]
  refine ⟨rfl, rfl, rfl, fun k hk => ?_⟩
  rw [defaultInitSeqAt_eq_set r r', List.getElem?_set_ne hk.symm]

/-- Settles O43: a well-formed sequence is entries that do not depend on `v` around one place of `v`. -/
theorem brightnessSequenceShape : Obligations.BrightnessSequenceShape := by
  refine ⟨fun _ => rfl, fun q hq => ?_⟩
  obtain ⟨before, after, hlength, hshape⟩ := brightSeqOf_of_check hq
  refine ⟨before.length, by omega, fun v w => ?_⟩
  rw [hshape v, hshape w]
  refine ⟨?_, by simp, fun j hj => ?_⟩
  · simp only [List.length_append, List.length_cons]
    omega
  · have hset : before ++ .cmd w .keep :: after =
        (before ++ .cmd v .keep :: after).set before.length (.cmd w .keep) := by
      simp
    rw [hset, List.getElem?_set_ne hj.symm]

end Sys2Proof.Machine
end

section
/-! SUPPORT. Which fault each check of the guard gives, the guard as a whole, and the requests and steps that end with
the fault set (60_exceptions.md R220, R221). -/

namespace Sys2Proof.Machine

section Faults

variable {i : Instr} {s t : State} {r : FaultReason}

/-! ## Which check gives which fault -/

/-- The initialisation check refuses INIT on an initialised handle and every other request before INIT
(60_exceptions.md R223). -/
theorem guardInitialized_eq_some_iff : guardInitialized i s = some r ↔
    (r = .alreadyInitialized ∧ i = .init ∧ s.initialized = true) ∨
      (r = .notInitialized ∧ i ≠ .init ∧ s.initialized = false) := by
  cases hinit : s.initialized <;> cases i <;> simp [guardInitialized, hinit, eq_comm]

/-- The family check refuses BRIGHT on LCD and BACKLIGHT* on OLED (60_exceptions.md R224). -/
theorem guardFamily_eq_some_iff : guardFamily i s = some r ↔
    (r = .wrongFamily ∧ s.family = .lcd ∧ ∃ v, i = .bright v) ∨
      (r = .wrongFamily ∧ s.family = .oled ∧ (i = .backlightoff ∨ i = .backlighton)) := by
  cases i
  case bright | backlightoff | backlighton => cases hfam : s.family <;> simp [guardFamily, hfam, eq_comm]
  all_goals simp [guardFamily]

/-- The operand check refuses GLYPH with an index of 8 or more (60_exceptions.md R225). -/
theorem guardOperand_eq_some_iff : guardOperand i = some r ↔
    r = .badGlyphIndex ∧
      ∃ idx m0 m1 m2 m3 m4 m5 m6 m7, i = .glyph idx m0 m1 m2 m3 m4 m5 m6 m7 ∧ 8 ≤ idx.toNat := by
  cases i
  case glyph idx m0 m1 m2 m3 m4 m5 m6 m7 => simp [guardOperand, eq_comm, and_comm]
  all_goals simp [guardOperand]

/-- The operand check refuses a request of both families only, so its order with the family check does not matter
(60_exceptions.md R224, R225). -/
theorem guardFamily_or_guardOperand_eq_some_iff :
    (guardFamily i s).or (guardOperand i) = some r ↔ guardFamily i s = some r ∨ guardOperand i = some r := by
  cases i
  case glyph => simp [guardFamily]
  all_goals simp [guardOperand]

/-- The guard gives the fault of the first check that fails (60_exceptions.md R221, R229). -/
theorem requestGuard_eq_or :
    requestGuard i s = (guardInitialized i s).or ((guardFamily i s).or (guardOperand i)) := by
  unfold requestGuard
  cases guardInitialized i s <;> cases guardFamily i s <;> rfl

/-- The guard's later checks refuse a request on an initialised handle only, and no later check refuses INIT
(60_exceptions.md R221). -/
theorem requestGuard_eq_some_iff : requestGuard i s = some r ↔
    guardInitialized i s = some r ∨ s.initialized = true ∧ (guardFamily i s = some r ∨ guardOperand i = some r) := by
  rw [requestGuard_eq_or, ← guardFamily_or_guardOperand_eq_some_iff]
  by_cases hi : i = .init
  · simp [hi, guardFamily, guardOperand]
  · cases hinit : s.initialized with
    | true => simp [guardInitialized_of_ne_init hinit hi]
    | false => simp [guardInitialized_eq_some_iff.mpr (.inr ⟨rfl, hi, hinit⟩)]

/-! ## Requests and steps that end with the fault set -/

/-- A request that ends with the fault set was refused by its guard and raised just that fault
(60_exceptions.md R220, R227). -/
theorem exec_faulted (h : exec i s = .next t) (hr : t.fault = some r) :
    requestGuard i s = some r ∧ t = afterFault s r := by
  obtain ⟨hf, ⟨r', hg, rfl⟩ | ⟨-, -, rfl⟩⟩ := exec_next h
  · obtain rfl : r' = r := by simpa using hr
    exact ⟨hg, rfl⟩
  · rw [afterRequest_fault, hf] at hr
    cases hr

/-- In a state with no fault a request raises what its guard gives, and nothing else raises a fault
(60_exceptions.md R221, R227). -/
theorem exec_eq_afterFault_iff (hf : s.fault = none) :
    exec i s = .next (afterFault s r) ↔ requestGuard i s = some r :=
  ⟨fun h => (exec_faulted h rfl).1, exec_of_guard_fault hf⟩

/-- The halted block runs no request (60_exceptions.md R220, R231). -/
theorem exec_of_fault (hr : s.fault = some r) (i : Instr) : exec i s = .fault .halted := by
  rw [exec_eq]
  simp [runRequest, hr]

/-- A request's bytes are taken from the front of the input (30_encoding.md R71). -/
theorem suffix_of_decode_request {bs rest : List Byte} (h : decode bs = .request i rest) : rest <:+ bs :=
  ⟨encode i, (eq_encode_append_of_decode h).symm⟩

/-- An illegal opcode's byte is taken from the front of the input (30_encoding.md R75). -/
theorem suffix_of_decode_illegal {bs rest : List Byte} {op : Byte} (h : decode bs = .illegal op rest) :
    rest <:+ bs := by
  cases bs with
  | nil => cases h
  | cons c args =>
    have hfrom := decodedAs_decode c args
    rw [h] at hfrom
    cases hfrom
    exact List.suffix_cons op rest

/-- A step that ends with the fault set has taken its request's bytes and raised that fault
(60_exceptions.md R220). -/
theorem step_faulted (h : step s = .next t) (hr : t.fault = some r) :
    ∃ rest, rest <:+ s.input ∧ t = afterFault (setInput rest s) r := by
  obtain ⟨-, ⟨i, rest, hdecode, hexec⟩ | ⟨op, rest, hdecode, rfl⟩⟩ := step_next h
  · exact ⟨rest, suffix_of_decode_request hdecode, (exec_faulted hexec hr).2⟩
  · obtain rfl : .illegalRequest = r := by simpa using hr
    exact ⟨rest, suffix_of_decode_illegal hdecode, rfl⟩

end Faults

end Sys2Proof.Machine
end

section
/-! The statements of 60_exceptions.md, settled from the laws above. -/

namespace Sys2Proof.Machine

/-- Settles O10: a request raises what its guard gives, and each check of the guard gives its own faults. -/
theorem guardRaisesTheFirstFault : Obligations.GuardRaisesTheFirstFault := by
  intro i s r hf
  rw [exec_eq_afterFault_iff hf, requestGuard_eq_some_iff, guardInitialized_eq_some_iff, guardFamily_eq_some_iff,
    guardOperand_eq_some_iff]
  simp only [and_or_left, or_assoc, and_left_comm (a := s.initialized = true)]

/-- Settles O11: the inversion of a request and of a step that end with the fault set, and the halted block. -/
theorem faultsArePreciseAndHalt : Obligations.FaultsArePreciseAndHalt :=
  ⟨fun _ _ _ _ h hr => (exec_faulted h hr).2, fun _ _ _ h hr => step_faulted h hr,
    fun _ _ hr => ⟨step_of_fault hr, exec_of_fault hr⟩⟩

/-- Settles O13: the numbers are those of the definition. -/
theorem faultCodesAreOneToFive : Obligations.FaultCodesAreOneToFive :=
  ⟨rfl, rfl, rfl, rfl, rfl⟩

/-- Settles O19: the initialisation check refuses INIT, and it is the first. -/
theorem secondInitFaults : Obligations.SecondInitFaults := by
  rintro s ⟨hf, hinit⟩
  have hlife := guardInitialized_eq_some_iff.mpr (.inl ⟨rfl, rfl, hinit⟩)
  exact (exec_eq_afterFault_iff hf).mpr (requestGuard_eq_some_iff.mpr (.inl hlife))

end Sys2Proof.Machine
end

section
/-! SUPPORT. The counts of the table as functions of a pattern, and the counts of every request's pattern under the
default parameters (70_reset_and_hazards.md R261). -/

namespace Sys2Proof.Machine

/-- T, W and µs of a pattern of events (70_reset_and_hazards.md R261). -/
def patternCounts (p : List (Option Nat)) : Nat × Nat × Nat :=
  (p.countP Option.isNone, p.countP Option.isSome, p.reduceOption.sum)

/-- The counts of a trace are those of its pattern. -/
theorem counts_eq_patternCounts (es : List Event) :
    (txnCount es, waitCount es, waitTotal es) = patternCounts (es.map eventShape) := by
  rw [txnCount_eq_countP_shape, waitCount_eq_countP_shape, waitTotal_eq_sum_shape, patternCounts]

/-- INIT has the counts of the table on either family, for every row count (70_reset_and_hazards.md R261). -/
theorem patternCounts_init (f : Family) (rows : Rows) :
    patternCounts (requestPattern .init f rows defaultParams) = tableCounts f .init := by
  cases f with
  | lcd =>
    rw [patternCounts, sum_requestPattern_init_lcd]
    rfl
  | oled =>
    rw [requestPattern_init_oled_default rows .one]
    rfl

/-- Under the default parameters BRIGHT sends six commands, whatever its value (42_oled_backend.md R206). -/
theorem requestPattern_bright_default (v : Byte) (f : Family) (rows : Rows) :
    requestPattern (.bright v) f rows defaultParams =
      (List.replicate 6 (commandPattern .oled defaultParams)).flatten := rfl

/-- A request its guard passes has the counts of the table under the default parameters: the guard leaves BACKLIGHT*
to LCD and BRIGHT to OLED, and only INIT's pattern knows of the row count (70_reset_and_hazards.md R261). -/
theorem patternCounts_requestPattern {i : Instr} {s : State} (hg : requestGuard i s = none) :
    patternCounts (requestPattern i s.family s.rows defaultParams) = tableCounts s.family i := by
  cases i
  case init => exact patternCounts_init s.family s.rows
  case backlightoff | backlighton =>
    rw [family_of_backlight_guard hg (by simp)]
    rfl
  case bright v =>
    rw [family_of_bright_guard hg, requestPattern_bright_default]
    rfl
  all_goals
    simp only [requestPattern]
    cases s.family <;> rfl

end Sys2Proof.Machine
end

section
/-! The statement of 70_reset_and_hazards.md, settled from the laws above. -/

namespace Sys2Proof.Machine

/-- Settles O53: a request its guard refuses emits nothing, and one that runs has the counts of its pattern. -/
theorem requestCountsOfTheTable : Obligations.RequestCountsOfTheTable := by
  intro i s t hparams h
  obtain ⟨hf, ⟨r, -, rfl⟩ | ⟨hg, hread, rfl⟩⟩ := exec_next h
  · rw [newEvents_raiseFault]
    rfl
  · rw [afterRequest_fault, if_pos hf, newEvents_afterRequest, counts_eq_patternCounts,
      map_eventShape_requestEvents s hread, hparams, patternCounts_requestPattern hg]

end Sys2Proof.Machine
end
